-- ==== Sys2Proof/Word.lean ====
section
/-! DEFINITION. The words the part's lines and records are made of. -/

namespace Sys2Proof

/-- One byte on a line (R165). -/
abbrev Byte := BitVec 8

/-- A frame stamp: a 32-bit count of frames that wraps to 0 (R159). -/
abbrev Stamp := BitVec 32

end Sys2Proof
end

