-- ==== Sys2Proof/Syntax.lean ====
section
/-! DEFINITION. The commands of the part, one constructor per row of spec/opcode_table.json, and the
names their operands use. -/

namespace Sys2Proof

/-- The two serial lines (chapter 9). -/
inductive Line where
  | control
  | safety
deriving DecidableEq, Repr

/-- The four service areas (chapter 5). The area NONE is the absence of one: `Option Area`. -/
inductive Area where
  | a
  | b
  | c
  | d
deriving DecidableEq, Repr

/-- The audio of one frame as the plan's frame step finds it: the alarm source's 48 samples, and the 48 samples of
each of the 24 inputs, I1's first, read for an input whose INPUT_FRAME of this frame has yet to come (R89, R90). -/
structure AudioFrame where
  source : List Int
  inputs : List (List Int)
deriving DecidableEq, Repr

/-- A command of the part. A request is a good frame of its kind, taken at the end of its last check
byte (R155); its operands are the frame's tag and its body, as Table 10-9 lays the body out (log 1). The
other commands are events of the lines, the audio frame, the panels, the store and the power supply. -/
inductive Instr where
  | stat (tag : Byte) (body : List Byte)
  | notf (tag : Byte) (body : List Byte)
  | subs (tag : Byte) (body : List Byte)
  | inset (tag : Byte) (body : List Byte)
  | inget (tag : Byte) (body : List Byte)
  | znset (tag : Byte) (body : List Byte)
  | znget (tag : Byte) (body : List Byte)
  | zngeo (tag : Byte) (body : List Byte)
  | stset (tag : Byte) (body : List Byte)
  | stget (tag : Byte) (body : List Byte)
  | clim (tag : Byte) (body : List Byte)
  | send (tag : Byte) (body : List Byte)
  | xprd (tag : Byte) (body : List Byte)
  | snap (tag : Byte) (body : List Byte)
  | arset (tag : Byte) (body : List Byte)
  | olrd (tag : Byte) (body : List Byte)
  | join (tag : Byte) (body : List Byte)
  | splt (tag : Byte) (body : List Byte)
  | paus (tag : Byte) (body : List Byte)
  | rsum (tag : Byte) (body : List Byte)
  | pnset (tag : Byte) (body : List Byte)
  | pnget (tag : Byte) (body : List Byte)
  | scrc (tag : Byte) (body : List Byte)
  | scst (tag : Byte) (body : List Byte)
  | scer (tag : Byte) (body : List Byte)
  | scls (tag : Byte) (body : List Byte)
  | bldw (tag : Byte) (body : List Byte)
  | sten (tag : Byte) (body : List Byte)
  | stdi (tag : Byte) (body : List Byte)
  | prot (tag : Byte) (body : List Byte)
  | alcf (tag : Byte) (body : List Byte)
  | alrd (tag : Byte) (body : List Byte)
  | arm1 (tag : Byte) (body : List Byte)
  | arm2 (tag : Byte) (body : List Byte)
  | rsta (tag : Byte) (body : List Byte)
  | alon (tag : Byte) (body : List Byte)
  | alof (tag : Byte) (body : List Byte)
  | supv (tag : Byte) (body : List Byte)
  /-- A good frame whose kind its line does not accept (R156). -/
  | unknownKind (line : Line) (kind : Byte) (tag : Byte) (body : List Byte)
  /-- A frame that fails (R154); `bytes` are the bytes received after its start byte. -/
  | checkFailed (line : Line) (bytes : List Byte)
  | frameDuringReply (line : Line)
  | framingError (line : Line)
  | partialFrameGap (line : Line)
  /-- One frame at an Input Channel (R30): the input, I1 as 0, and the frame's 48 samples in order. -/
  | inputFrame (input : Fin 24) (samples : List Int)
  | holdTick (area : Area)
  | holdExpiry (input : Fin 24)
  /-- The plan's frame step (R78), with the audio of its frame (logs 14, 18). -/
  | planFrameStep (audio : AudioFrame)
  | moveEnd (crosspoint : Fin 384)
  | storeCompletion
  /-- One sample of a panel's three lines (R107), high as true; P1 is 0. -/
  | panelSample (panel : Fin 8) (lineA lineB lineZ : Bool)
  /-- One sample of the key-switch line (R117), high (OPEN) as true. -/
  | keySwitchSample (level : Bool)
  | supervisionTick
  | supervisionExpiry
  | powerOn
  | restart
  | powerLoss
  | frameBoundary
  | replySent (line : Line)
  /-- A start byte (R152) and the bytes of its frame that follow it before the line's next event. -/
  | startByte (line : Line) (following : List Byte)
deriving DecidableEq, Repr

end Sys2Proof
end

