-- ==== Sys2Proof/Decode.lean ====
section
/-! DEFINITION. The decoder the host asks for. No row of spec/opcode_table.json gives bits, so no word
spells a command. Frames are read by their bodies (Machine/Operands.lean). -/

namespace Sys2Proof

/-- The command a table word spells: none, since no row gives bits. -/
def decodeTableWord (_nbits _w : Nat) : Option Instr := none

end Sys2Proof
end

