-- ==== Sys2Proof/Config.lean ====
section
/-! DEFINITION. What an implementation of the part fixes and the spec does not, and the free values. -/

namespace Sys2Proof

/-- Full scale, in the model's sample units. DESIGN CHOICE (log 11): the spec gives no word length. -/
def Config.fullScale : Nat := 2 ^ 31

/-- The unit of a linear amplitude in the model's fixed-point form. DESIGN CHOICE (log 13). -/
def Config.amplitudeUnit : Nat := 2 ^ 30

/-- R163: the firmware revision's major number. FREE VALUE (log 17): the spec gives none. -/
opaque Config.firmwareMajor : Byte

/-- R163: the firmware revision's minor number. FREE VALUE (log 17): the spec gives none. -/
opaque Config.firmwareMinor : Byte

/-- Whether a magnitude scaled by a gain in td, where the exact product is no whole number, takes the
whole number above it (yes) or below it. FREE VALUE (log 12): R89 and R147 state no rounding. -/
opaque Config.scaleRoundsUp : Int → Nat → Bool

/-- The same for a crosspoint's contribution, whose exact value is a quotient of two whole numbers.
FREE VALUE (log 13): R90 states no rounding. -/
opaque Config.quotientRoundsUp : Int → Nat → Bool

end Sys2Proof
end

