-- ==== Sys2Proof/Machine/Framing.lean ====
section
/-! DEFINITION. Frames on a line: the check of R154 and the receiver of R152, over bytes alone. -/

namespace Sys2Proof.Machine

/-- One bit of the check's division by the generator polynomial 1021h (R154). -/
def crcBit (crc : BitVec 16) : BitVec 16 :=
  if crc.msb then (crc <<< 1) ^^^ 0x1021#16 else crc <<< 1

/-- The check after one more byte, taken most significant bit first (R154). -/
def crcByte (crc : BitVec 16) (b : Byte) : BitVec 16 :=
  crcBit (crcBit (crcBit (crcBit (crcBit (crcBit (crcBit (crcBit (crc ^^^ (b.setWidth 16 <<< 8)))))))))

/-- R154: the check of a sequence of bytes, from the initial value FFFFh. -/
def crc16 (bytes : List Byte) : BitVec 16 :=
  bytes.foldl crcByte 0xFFFF#16

/-- The start byte of every frame (R166). -/
def startByteValue : Byte := 0xA5#8

/-- R166: the frame that carries a kind, a tag and a body: start byte, length (least significant byte
first), kind, tag, body, check (most significant byte first). -/
def frameOf (kind tag : Byte) (body : List Byte) : List Byte :=
  let length : BitVec 16 := BitVec.ofNat 16 (body.length + 2)
  let counted := [length.extractLsb' 0 8, length.extractLsb' 8 8, kind, tag] ++ body
  let check := crc16 counted
  startByteValue :: counted ++ [check.extractLsb' 8 8, check.extractLsb' 0 8]

/-- The receiver's four states (R152). -/
inductive RxState where
  | hunt
  | length
  | body
  | check
deriving DecidableEq, Repr

/-- A line's receiver: its state and the bytes kept since the start byte (R152). -/
structure Receiver where
  state : RxState
  kept : List Byte
deriving DecidableEq, Repr

/-- A receiver that hunts (R151). -/
def Receiver.hunting : Receiver := ⟨.hunt, []⟩

/-- A receiver that has just taken a start byte (R152). -/
def Receiver.started : Receiver := ⟨.length, []⟩

/-- The length that the first two kept bytes give, least significant byte first (R165, R166). -/
def keptLength (kept : List Byte) : Nat :=
  (kept.getD 0 0).toNat + 256 * (kept.getD 1 0).toNat

/-- R152: a length that a frame can have. -/
def lengthPossible (n : Nat) : Bool := decide (2 ≤ n ∧ n ≤ 512)

/-- Table 9-1: the receiver after one byte. A frame whose second check byte arrives leaves the receiver
hunting; what comes of that frame is the command that takes it. -/
def Receiver.byte (r : Receiver) (b : Byte) : Receiver :=
  let kept := r.kept ++ [b]
  match r.state with
  | .hunt => if b = startByteValue then Receiver.started else r
  | .length =>
    if kept.length < 2 then ⟨.length, kept⟩
    else if lengthPossible (keptLength kept) then ⟨.body, kept⟩ else Receiver.hunting
  | .body => if kept.length < 2 + keptLength kept then ⟨.body, kept⟩ else ⟨.check, kept⟩
  | .check => if kept.length < 4 + keptLength kept then ⟨.check, kept⟩ else Receiver.hunting

/-- The receiver after a run of bytes. -/
def Receiver.bytes (r : Receiver) (bs : List Byte) : Receiver :=
  bs.foldl Receiver.byte r

/-- The frame (from its first length byte to its second check byte) that this byte completes, if any. -/
def Receiver.completes (r : Receiver) (b : Byte) : Option (List Byte) :=
  let kept := r.kept ++ [b]
  if r.state = .check ∧ 4 + keptLength kept ≤ kept.length then some kept else none

/-- R154: a complete frame whose check is right. -/
def goodCheck (frame : List Byte) : Bool :=
  let counted := frame.take (frame.length - 2)
  let check := crc16 counted
  frame.drop (frame.length - 2) = [check.extractLsb' 8 8, check.extractLsb' 0 8]

/-- Whether a run of bytes completes a good frame at some byte. -/
def completesGood (r : Receiver) : List Byte → Bool
  | [] => false
  | b :: bs => ((r.completes b).any goodCheck) || completesGood (r.byte b) bs

/-- Whether the receiver leaves the frame it is collecting at some byte of a run: the frame is complete, or
its length is impossible. -/
def endsFrame (r : Receiver) : List Byte → Bool
  | [] => false
  | b :: bs => decide ((r.byte b).state = .hunt) || endsFrame (r.byte b) bs

/-- Table 9-3: the kinds the control line accepts. -/
def controlKinds : List Byte :=
  [0x01, 0x02, 0x03, 0x08, 0x09, 0x0A, 0x0B, 0x0C, 0x10, 0x11, 0x12, 0x18, 0x19, 0x1A, 0x20, 0x21, 0x22, 0x23,
   0x24, 0x25, 0x28, 0x29, 0x30, 0x31, 0x32, 0x33, 0x34, 0x35, 0x36, 0x37, 0x38, 0x39, 0x3A, 0x3B, 0x3F]

/-- Table 9-4: the kinds the safety line accepts. -/
def safetyKinds : List Byte := [0x50, 0x51, 0x52]

/-- R156: whether a line accepts a kind. -/
def acceptedKind (line : Line) (kind : Byte) : Bool :=
  match line with
  | .control => controlKinds.contains kind
  | .safety => safetyKinds.contains kind

end Sys2Proof.Machine
end

