-- ==== Sys2Proof/Machine/Table.lean ====
section
/-! DEFINITION. A fixed number of like things, indexed from 0: the inputs, zones, crosspoints, panels, slots
and areas of the part. A table carries the proof of its length, so that every index reads an entry. -/

namespace Sys2Proof.Machine

/-- `n` things of one type, in order. -/
structure Table (α : Type) (n : Nat) where
  rows : List α
  size : rows.length = n
deriving DecidableEq, Repr

namespace Table

variable {α β : Type} {n : Nat}

/-- The entry at an index. -/
def get (t : Table α n) (i : Fin n) : α := t.rows[i.val]'(by rw [t.size]; exact i.isLt)

/-- The table with one entry replaced. -/
def set (t : Table α n) (i : Fin n) (x : α) : Table α n :=
  ⟨t.rows.set i.val x, by rw [List.length_set, t.size]⟩

/-- Every entry replaced by a function of its index and itself. -/
def mapIdx (t : Table α n) (f : Fin n → α → β) : Table β n :=
  ⟨List.zipWith f (List.finRange n) t.rows, by simp [t.size]⟩

/-- The same thing at every index. -/
def replicate (n : Nat) (x : α) : Table α n := ⟨List.replicate n x, List.length_replicate⟩

/-- The table of a function of the index. -/
def ofFn (f : Fin n → α) : Table α n := ⟨(List.finRange n).map f, by simp⟩

end Table

end Sys2Proof.Machine
end

