-- ==== Sys2Proof/Machine/State.lean ====
section
/-! DEFINITION. Every piece of state the spec gives the part (INVENTORY.md, State), as plain data, and the
state right after reset. -/

namespace Sys2Proof.Machine

/-! ### Geometry (chapter 1) -/

/-- A point of the building in centimetres, each coordinate 0..32767 (Table 1-1). -/
structure Point where
  x : Nat
  y : Nat
  z : Nat
deriving DecidableEq, Repr

/-- A station entry (Table 1-1). -/
structure Station where
  defined : Bool
  label : List Byte
  point : Point
deriving DecidableEq, Repr

/-- A zone geometry entry (Table 1-2). -/
structure ZoneGeometry where
  label : List Byte
  speaker : Point
  listener : Point
  precedence : Nat
  extra : Nat
  moveCode : Nat
  slew : Nat
deriving DecidableEq, Repr

/-! ### Inputs (chapter 2) -/

inductive InputMode where
  | off
  | direct
  | gated
deriving DecidableEq, Repr

/-- The five gate states (section 2.4). -/
inductive GateState where
  | closed
  | qualifying
  | denied
  | opened
  | holding
deriving DecidableEq, Repr

/-- The input settings (Table 2-1). A station of `none` is S0; S1 is 0. -/
structure InputSettings where
  mode : InputMode
  trim : Int
  station : Option (Fin 32)
  area : Option Area
  priority : Nat
  offset : Nat
  debounce : Nat
  holdCode : Nat
  attackCode : Nat
  releaseCode : Nat
  lastMic : Bool
deriving DecidableEq, Repr

/-- An Input Channel (chapter 2) and its delay memory (R89), newest sample first. -/
structure Input where
  settings : InputSettings
  level : Int
  noiseFloor : Int
  rise : Nat
  gate : GateState
  qualifying : Nat
  gain : Int
  target : Int
  reversals : Nat
  memory : List Int
  /-- R90: the gate gain used in the last plan step; -1000 before the first, DESIGN CHOICE (log 16). -/
  gainUsed : Int
  /-- R30, R90: the input's frame of this frame has been taken (log 14). -/
  frameTaken : Bool
deriving DecidableEq, Repr

/-! ### Areas and open lists (chapters 3 and 5) -/

inductive PauseMode where
  | freeze
  | drain
  | track
deriving DecidableEq, Repr

/-- The area settings (Table 3-2). -/
structure AreaSettings where
  maxOpen : Nat
  lastMicHold : Bool
  depth : Int
  margin : Nat
  pauseMode : PauseMode
deriving DecidableEq, Repr

/-- An open-list entry (Table 3-1). Its state OPEN or HOLDING is its input's gate state (R43), held there. -/
structure Entry where
  input : Fin 24
  priority : Nat
  stamp : Stamp
  retained : Bool
  hold : Nat
  openingLevel : Int
  /-- R102: the hold tick of this frame has been taken by a list the entry stood in (log 7). -/
  ticked : Bool
deriving DecidableEq, Repr

/-- What the Open List Unit and the Area Map hold for one area. -/
structure AreaUnit where
  settings : AreaSettings
  /-- The join map's entry (R93): alone, or joined into a lead. -/
  joinedInto : Option Area
  paused : Bool
  list : List Entry
  nom : Nat
  /-- The list's hold tick of this frame has been taken (R54, R102; log 7). -/
  tickTaken : Bool
deriving DecidableEq, Repr

/-! ### The crosspoint plan (chapter 4) -/

/-- A running delay move (R66): T, e and n. F is the active delay, and is held there. -/
structure Move where
  dest : Nat
  elapsed : Nat
  length : Nat
deriving DecidableEq, Repr

/-- A crosspoint record (Table 4-1). It is MOVING while it has a move record, and STEADY otherwise. -/
structure Crosspoint where
  live : Bool
  send : Int
  targetGain : Int
  activeGain : Int
  targetDelay : Nat
  activeDelay : Nat
  move : Option Move
  pendingDelay : Option Nat
  clamp : Bool
deriving DecidableEq, Repr

/-- The zone scene fields (Table 4-2). -/
structure ZoneScene where
  area : Option Area
  level : Int
  trimDefault : Int
  trimMin : Int
  trimMax : Int
deriving DecidableEq, Repr

/-- What a zone's selector passes (R91). -/
inductive ZoneSource where
  | crosspointSum
  | alarmSource
deriving DecidableEq, Repr

/-- A zone: its geometry, its scene fields, its trim and its output stage. -/
structure Zone where
  geometry : ZoneGeometry
  scene : ZoneScene
  trim : Int
  /-- The selector as events set it (R147, R149). -/
  selector : ZoneSource
  /-- The selector in effect since the last frame boundary (R91). -/
  selected : ZoneSource
  /-- The alarm level in effect since the last frame boundary (R137). -/
  levelInEffect : Int
  /-- The crosspoint sum of the last plan step (R90); before the first no samples, DESIGN CHOICE (log 18). -/
  sum : List Int
  /-- What the zone output carried in the last plan step (R91). -/
  output : List Int
deriving DecidableEq, Repr

/-! ### Panels and the key switch (chapter 6) -/

/-- A line filter (R105, R106). A level of true is high. -/
structure LineFilter where
  accepted : Option Bool
  run : Nat
  last : Option Bool
deriving DecidableEq, Repr

/-- The scene part of a panel's settings (Table 6-3). A zone of `none` is 0, unassigned. -/
structure PanelScene where
  zone : Option (Fin 16)
  enabled : Bool
deriving DecidableEq, Repr

/-- The building part of a panel's settings (Table 6-3). -/
structure PanelBuilding where
  edges : Nat
  step : Nat
  filterCount : Nat
  threshold : Int
deriving DecidableEq, Repr

inductive Direction where
  | noDirection
  | clockwise
  | anticlockwise
deriving DecidableEq, Repr

/-- A panel and its decoder (chapter 6). -/
structure Panel where
  scene : PanelScene
  building : PanelBuilding
  lineA : LineFilter
  lineB : LineFilter
  lineZ : LineFilter
  reference : Option (Bool × Bool)
  accumulator : Int
  direction : Direction
  fault : Bool
  illegal : Nat
  atLimit : Bool
deriving DecidableEq, Repr

/-! ### The stores (chapter 7) -/

/-- The contents of a scene (Table 7-2). -/
structure Scene where
  label : List Byte
  inputs : Table InputSettings 24
  zones : Table ZoneScene 16
  sends : Table Int 384
  areas : Table AreaSettings 4
  joins : Table (Option Area) 4
  panels : Table PanelScene 8
deriving DecidableEq, Repr

/-- A scene slot (R118). An INCOMPLETE slot holds no contents (log 19). -/
inductive Slot where
  | empty
  | valid (scene : Scene)
  | incomplete
deriving DecidableEq, Repr

/-- A stored record (R118). An INCOMPLETE record's contents are not to be used (R131), and none are held. -/
inductive Stored (α : Type) where
  | valid (contents : α)
  | incomplete
deriving DecidableEq, Repr

/-- The contents of the building record (Table 7-1). -/
structure Building where
  stations : Table Station 32
  zones : Table ZoneGeometry 16
  panels : Table PanelBuilding 8
  startupScene : Option (Fin 64)
  defaultTemp : Int
  climateStep : Nat
deriving DecidableEq, Repr

inductive ExpiryAction where
  | report
  | fallback
  | alert
deriving DecidableEq, Repr

/-- The alarm settings (Table 8-1). -/
structure AlarmSettings where
  levels : Table Int 16
  code : Nat
  action : ExpiryAction
  fallback : Option (Fin 64)
  autoArm : Bool
deriving DecidableEq, Repr

/-- The protection levels OPEN, QUARTER, HALF and FULL (Table 7-3). -/
inductive Protection where
  | unprotected
  | quarter
  | half
  | full
deriving DecidableEq, Repr

/-- The guard: a protection level and the lock bit (R118). -/
structure Guard where
  level : Protection
  lock : Bool
deriving DecidableEq, Repr

/-- A store operation: its kind, its target and the contents to be written (R123). -/
inductive StoreOp where
  | scst (slot : Fin 64) (scene : Scene)
  | scer (slot : Fin 64)
  | bldw (contents : Building)
  | alcf (contents : AlarmSettings)
  | prot (contents : Guard)
deriving DecidableEq, Repr

/-- The non-volatile contents (Table 7-1). -/
structure Store where
  slots : Table Slot 64
  building : Stored Building
  alarm : Stored AlarmSettings
  guard : Stored Guard
deriving DecidableEq, Repr

/-! ### The alarm (chapter 8) -/

inductive AlarmState where
  | disarmed
  | primed
  | armed
  | fault
deriving DecidableEq, Repr

inductive OverrideCause where
  | noCause
  | alarm
  | expiry
deriving DecidableEq, Repr

inductive FaultCause where
  | expiry
  | outOfSequence
deriving DecidableEq, Repr

/-- The action taken at an entry to FAULT (R145). -/
inductive ActionTaken where
  | noAction
  | report
  | fallbackMade
  | fallbackNotMade
  | alert
deriving DecidableEq, Repr

/-- The supervision timer while it runs (R142): milliseconds left and the expected phase, 1 or 2. -/
structure Timer where
  remaining : Nat
  phase : Nat
deriving DecidableEq, Repr

/-- The Alarm Override Unit (chapter 8). -/
structure AlarmUnit where
  settings : AlarmSettings
  state : AlarmState
  cause : OverrideCause
  timer : Option Timer
  faultCause : Option FaultCause
  actionTaken : Option ActionTaken
  /-- R139: the auto-arm decision waits for the completion of the ALCF in flight (log 22). -/
  autoArmDeferred : Bool
deriving DecidableEq, Repr

/-! ### The lines (chapter 9) -/

/-- The notice kinds (Table 9-6). -/
inductive NoticeKind where
  | delayClamped
  | climateStep
  | listChange
  | panelLevel
  | panelFault
  | storeDone
  | recordIncomplete
  | sceneRecalled
  | alarmState
  | override
  | supervisionFault
  | startup
  | keySwitch
deriving DecidableEq, Repr

/-- A notice (R160). -/
structure Notice where
  kind : NoticeKind
  stamp : Stamp
  subject : Nat
  value : Int
deriving DecidableEq, Repr

/-- One line's receiver and its pending reply frame (R151, R155). -/
structure LineState where
  receiver : Receiver
  reply : Option (List Byte)
deriving DecidableEq, Repr

/-- Why a command could stop the part: never. The spec gives no rule under which the part stops, and
"in FAULT the part goes on working" (R145). -/
inductive Fault where
deriving DecidableEq, Repr

/-- Why a command could be refused by the model. -/
inductive Refusal where
  /-- Raised by `exec` alone, for a command that has no meaning yet (safe). No arm raises it. -/
  | notModelled (mnemonic : String)
deriving DecidableEq, Repr

/-- The part. -/
structure State where
  /-- Whether the part has power (log 3). -/
  powered : Bool
  control : LineState
  safety : LineState
  queue : List Notice
  overflow : Bool
  subscribed : List NoticeKind
  stamp : Stamp
  /-- R164: an RSTA has been accepted and its start-up has not begun (log 22). -/
  restartAccepted : Bool
  stations : Table Station 32
  reported : Option Int
  used : Int
  defaultTemp : Int
  climateStep : Nat
  inputs : Table Input 24
  areas : Table AreaUnit 4
  crosspoints : Table Crosspoint 384
  zones : Table Zone 16
  panels : Table Panel 8
  key : LineFilter
  store : Store
  latch : Bool
  operation : Option StoreOp
  guard : Guard
  alarm : AlarmUnit
  /-- The commands waiting, first in, first out, from one sender (log 5). -/
  pending : List Instr
deriving DecidableEq, Repr

/-! ### Factory contents (R133) and the values at start-up -/

def Point.origin : Point := ⟨0, 0, 0⟩

/-- R10: an undefined station with an empty label. -/
def Station.factory : Station := ⟨false, [], Point.origin⟩

/-- Table 1-2, factory values. -/
def ZoneGeometry.factory : ZoneGeometry := ⟨[], Point.origin, Point.origin, 576, 0, 22, 2⟩

/-- Table 2-1, factory values. -/
def InputSettings.factory : InputSettings :=
  { mode := .off, trim := 0, station := none, area := none, priority := 1, offset := 90, debounce := 3,
    holdCode := 25, attackCode := 1, releaseCode := 24, lastMic := true }

/-- Table 3-2, factory values. -/
def AreaSettings.factory : AreaSettings := ⟨4, true, -1000, 0, .freeze⟩

/-- Table 4-2, factory values. -/
def ZoneScene.factory : ZoneScene := ⟨none, 0, 0, -300, 60⟩

/-- Table 6-3, factory values. -/
def PanelScene.factory : PanelScene := ⟨none, false⟩

/-- Table 6-3, factory values. -/
def PanelBuilding.factory : PanelBuilding := ⟨4, 5, 4, 30⟩

/-- R133: the factory live setup, as the scene fields it holds. -/
def Scene.factory : Scene :=
  { label := [], inputs := Table.replicate 24 InputSettings.factory,
    zones := Table.replicate 16 ZoneScene.factory, sends := Table.replicate 384 (-1000),
    areas := Table.replicate 4 AreaSettings.factory, joins := Table.replicate 4 none,
    panels := Table.replicate 8 PanelScene.factory }

/-- Table 7-4: the factory building record. -/
def Building.factory : Building :=
  { stations := Table.replicate 32 Station.factory, zones := Table.replicate 16 ZoneGeometry.factory,
    panels := Table.replicate 8 PanelBuilding.factory, startupScene := none, defaultTemp := 150, climateStep := 5 }

/-- Table 7-4: the factory alarm record. -/
def AlarmSettings.factory : AlarmSettings :=
  { levels := Table.replicate 16 0, code := 30, action := .report, fallback := none, autoArm := false }

/-- Table 7-4: the factory guard record. -/
def Guard.factory : Guard := ⟨.unprotected, false⟩

/-- Table 7-4: the stored contents of a part as it leaves manufacture. -/
def Store.factory : Store :=
  { slots := Table.replicate 64 .empty, building := .valid Building.factory,
    alarm := .valid AlarmSettings.factory, guard := .valid Guard.factory }

/-- R42, R89: an Input Channel at start-up, before its settings are put in force. -/
def Input.initial : Input :=
  { settings := InputSettings.factory, level := -1200, noiseFloor := -600, rise := 0, gate := .closed,
    qualifying := 0, gain := -1000, target := -1000, reversals := 0, memory := [], gainUsed := -1000,
    frameTaken := false }

/-- R65: an area at start-up. -/
def AreaUnit.initial : AreaUnit :=
  { settings := AreaSettings.factory, joinedInto := none, paused := false, list := [], nom := 0,
    tickTaken := false }

/-- R67: a crosspoint at start-up with a delay of its own. -/
def Crosspoint.initial (delay : Nat) : Crosspoint :=
  { live := false, send := -1000, targetGain := -1000, activeGain := -1000, targetDelay := delay,
    activeDelay := delay, move := none, pendingDelay := none, clamp := false }

/-- R150: a zone at start-up. -/
def Zone.initial : Zone :=
  { geometry := ZoneGeometry.factory, scene := ZoneScene.factory, trim := 0, selector := .crosspointSum,
    selected := .crosspointSum, levelInEffect := 0, sum := [], output := [] }

/-- R106: a filter with no accepted level. -/
def LineFilter.initial : LineFilter := ⟨none, 0, none⟩

/-- R106, R109, R116: a panel at start-up. -/
def Panel.initial : Panel :=
  { scene := PanelScene.factory, building := PanelBuilding.factory, lineA := LineFilter.initial,
    lineB := LineFilter.initial, lineZ := LineFilter.initial, reference := none, accumulator := 0,
    direction := .noDirection, fault := false, illegal := 0, atLimit := false }

/-- R139, R150: the Alarm Override Unit at start-up. -/
def AlarmUnit.initial : AlarmUnit :=
  { settings := AlarmSettings.factory, state := .disarmed, cause := .noCause, timer := none,
    faultCause := none, actionTaken := none, autoArmDeferred := false }

/-- R151: a line with nothing on it. -/
def LineState.idle : LineState := ⟨Receiver.hunting, none⟩

/-- Every notice kind, in the order of its code (Table 9-6). -/
def NoticeKind.all : List NoticeKind :=
  [.delayClamped, .climateStep, .listChange, .panelLevel, .panelFault, .storeDone, .recordIncomplete,
   .sceneRecalled, .alarmState, .override, .supervisionFault, .startup, .keySwitch]

/-- R162: the default subscriptions, every kind but LIST-CHANGE. -/
def NoticeKind.subscribedByDefault : List NoticeKind :=
  [.delayClamped, .climateStep, .panelLevel, .panelFault, .storeDone, .recordIncomplete,
   .sceneRecalled, .alarmState, .override, .supervisionFault, .startup, .keySwitch]

/-- The part with all its volatile state at the values from which a start-up sets out, its stored contents
and its waiting commands kept. The live setup and the live geometry are the factory ones, with the factory
precedence offset of 576 as every delay target (R16, R17); the start-up (R135) replaces them from the
stores. -/
def State.cold (store : Store) (pending : List Instr) (powered : Bool) : State :=
  { powered, control := LineState.idle, safety := LineState.idle, queue := [], overflow := false,
    subscribed := NoticeKind.subscribedByDefault, stamp := 0#32, restartAccepted := false,
    stations := Table.replicate 32 Station.factory, reported := none, used := 150, defaultTemp := 150,
    climateStep := 5, inputs := Table.replicate 24 Input.initial, areas := Table.replicate 4 AreaUnit.initial,
    crosspoints := Table.replicate 384 (Crosspoint.initial 576), zones := Table.replicate 16 Zone.initial,
    panels := Table.replicate 8 Panel.initial, key := LineFilter.initial, store, latch := false,
    operation := none, guard := Guard.factory, alarm := AlarmUnit.initial, pending }

/-- The part right after the power-on start-up of a part with the factory stored contents (log 3): R135
with R133, R42, R65, R67, R106, R113, R139, R151, R159, R160 and R162. STARTUP waits in the queue with
value -1 (R135). -/
def State.reset : State :=
  { State.cold Store.factory [] true with queue := [⟨.startup, 0#32, 0, -1⟩] }

end Sys2Proof.Machine
end

