-- ==== Sys2Proof/Machine/Audio.lean ====
section
/-! DEFINITION. The arithmetic of audio samples: gains in td applied to samples (R27, R89, R147), the frame
level (R27), taps of a delay memory (R89) and a crosspoint's contribution (R83, R90). A sample is a whole
number with full scale at `Config.fullScale` (log 11). A gain of t td multiplies by ten to the power t/200. -/

namespace Sys2Proof.Machine

/-- The greatest sum of powers of two below 2^bits that a test accepts, tried from the highest power down. For
a test that accepts 0 and no more once it has failed, this is the greatest number it accepts. -/
def searchDown (accepts : Nat → Bool) : Nat → Nat → Nat
  | 0, found => found
  | bits + 1, found =>
    searchDown accepts bits (if accepts (found + 2 ^ bits) then found + 2 ^ bits else found)

/-- Whether n is at most m times ten to the power t/200, compared exactly through 200th powers. -/
def atMostScaled (t : Int) (m n : Nat) : Bool :=
  decide (n ^ 200 * 10 ^ (-t).toNat ≤ m ^ 200 * 10 ^ t.toNat)

/-- Whether n is exactly m times ten to the power t/200. -/
def exactlyScaled (t : Int) (m n : Nat) : Bool :=
  decide (n ^ 200 * 10 ^ (-t).toNat = m ^ 200 * 10 ^ t.toNat)

/-- The greatest whole number that is at most m times ten to the power t/200. -/
def scaledFloor (t : Int) (m : Nat) : Nat :=
  searchDown (atMostScaled t m) (m.log2 + 1 + 4 * (t.toNat / 200 + 1)) 0

/-- A magnitude scaled by a gain in td. Where the exact value is no whole number, the one below it or the one
above it results: FREE VALUE (log 12). -/
def scaledMagnitude (t : Int) (m : Nat) : Nat :=
  if exactlyScaled t m (scaledFloor t m) then scaledFloor t m
  else if Config.scaleRoundsUp t m then scaledFloor t m + 1 else scaledFloor t m

/-- R27, R89, R90: a sample held at full scale. -/
def limitToFullScale (x : Int) : Int :=
  if (Config.fullScale : Int) < x then Config.fullScale
  else if x < -(Config.fullScale : Int) then -(Config.fullScale : Int) else x

/-- R27: a sample scaled by a gain in td and held at full scale. A gain of 0 td leaves the sample as it is. -/
def scaleSample (t : Int) (x : Int) : Int :=
  if t = 0 then limitToFullScale x
  else limitToFullScale (x.sign * (scaledMagnitude t x.natAbs : Int))

/-! ### The frame level (R27) -/

/-- R27, step 2: whether a sample scaled by a trim is at or below full scale, compared exactly. -/
def withinFullScale (trim : Int) (x : Int) : Bool := atMostScaled (-trim) Config.fullScale x.natAbs

/-- The sum of the squares of samples. -/
def energy (samples : List Int) : Nat := (samples.map fun x => x.natAbs ^ 2).sum

/-- The sum of 48 squares at full scale. -/
def fullEnergy : Nat := 48 * Config.fullScale ^ 2

/-- The greatest whole number that is at most 2^bits times ten to the power r/100, for r below 100. -/
def rootOfTen (bits r : Nat) : Nat := searchDown (fun n => decide (n ^ 100 ≤ 2 ^ (100 * bits) * 10 ^ r)) (bits + 4) 0

/-- Whether (scaled × 10^(trim/100) + held) ÷ `fullEnergy` is at least ten to the power -j/100, decided with
ten to the power (trim mod 100)/100 bounded from below and from above to `bits` bits. None where the two bounds
disagree; where the power is a whole number the bounds are one. -/
def mixedAtLeast (bits : Nat) (trim : Int) (scaled held j : Nat) : Option Bool :=
  let whole := trim / 100
  let r := (trim % 100).toNat
  let low := rootOfTen bits r
  let high := if r = 0 then low else low + 1
  let sum := fun root => scaled * root * 10 ^ whole.toNat + held * 2 ^ bits * 10 ^ (-whole).toNat
  let full := fullEnergy * 2 ^ bits * 10 ^ (-whole).toNat
  if full ^ 100 ≤ sum low ^ 100 * 10 ^ j then some true
  else if sum high ^ 100 * 10 ^ j < full ^ 100 then some false
  else none

/-- R27, steps 3 and 4: whether the mean of the squares, with full scale counted as 1, is at least ten to the
power -j/100: `scaled` is the sum of the squares, before the trim, of the samples that stay within full scale,
and `held` that of the samples taken at full scale. The comparison is exact: without held samples through 100th
powers, and with them through bounds of 128 bits, or of 16384 where those do not decide. These always decide for a
trim of -200..200 (Laws/Level.lean: `mixedAtLeast_decides`, `meanAtLeast_iff`). -/
def meanAtLeast (trim : Int) (scaled held j : Nat) : Bool :=
  if held = 0 then decide (fullEnergy ^ 100 * 10 ^ (-trim).toNat ≤ scaled ^ 100 * 10 ^ trim.toNat * 10 ^ j)
  else
    match mixedAtLeast 128 trim scaled held j with
    | some answer => answer
    | none => (mixedAtLeast 16384 trim scaled held j).getD false

/-- R27, steps 4 and 5: 100 × log10 of the mean, rounded down, and not below -1200. -/
def levelOfMean (trim : Int) (scaled held : Nat) : Int :=
  if scaled + held = 0 then -1200
  else -(min 1200 (searchDown (fun j => !meanAtLeast trim scaled held (j - 1)) 11 0) : Nat)

/-- R27: the frame level of a frame's samples under a trim. -/
def frameLevel (trim : Int) (samples : List Int) : Int :=
  levelOfMean trim (energy (samples.filter (withinFullScale trim)))
    ((samples.filter fun x => !withinFullScale trim x).length * Config.fullScale ^ 2)

/-! ### Taps and contributions (R83, R89, R90) -/

/-- R89: a delay memory keeps the present frame and the 16383 samples before its first sample. -/
def memoryLength : Nat := 16383 + 48

/-- The memory after one more frame, given in the order of its samples. -/
def storeFrame (memory frame : List Int) : List Int := (frame.reverse ++ memory).take memoryLength

/-- R27, R89: an input's delay memory with one more frame in it, trimmed. -/
def Input.memoryWith (x : Input) (samples : List Int) : List Int :=
  storeFrame x.memory (samples.map (scaleSample x.settings.trim))

/-- R89, R90: the delay memory that a plan step taps, whose newest 48 samples are those of the present frame:
where the input's frame has not been taken yet, they are the ones that have yet to come to it (log 14). -/
def Input.tapped (x : Input) (coming : List Int) : List Int :=
  if x.frameTaken then x.memory else x.memoryWith coming

/-- R89: the tap at a delay over the 48 samples of the newest frame, in order; silence past the memory's end. -/
def tap (memory : List Int) (delay : Nat) : List Int :=
  let newestFirst := (memory.drop delay).take 48
  (newestFirst ++ List.replicate (48 - newestFirst.length) 0).reverse

/-- A gain's linear amplitude in units of `Config.amplitudeUnit`; the floor is silence (R2, R90). -/
def amplitude (t : Int) : Nat := if t = -1000 then 0 else scaledMagnitude t Config.amplitudeUnit

/-- A value that moves linearly over a frame's 48 samples, at sample k = 1..48, times 48 (R83, R90). It stands at
its new value at sample 48: DESIGN CHOICE (log 16). -/
def glide (before after : Nat) (k : Nat) : Nat := before * (48 - k) + after * k

/-- A quotient that is no whole number takes the one below it or the one above it: FREE VALUE (log 13). -/
def roundedQuotient (num : Int) (den : Nat) : Int :=
  if num % den = 0 then num / den
  else if Config.quotientRoundsUp num den then num / den + 1 else num / den

/-- What a crosspoint's contribution of one frame is made of: the two taps, the crossfade step and length of
the move (R83), and the two gains before and after (R90). A STEADY crosspoint has one tap and length 1. -/
structure Mix where
  tapFrom : List Int
  tapTo : List Int
  step : Nat
  length : Nat
  gainBefore : Int
  gainAfter : Int
  gateBefore : Int
  gateAfter : Int

/-- R83, R90: the contribution at sample k = 1..48 (of index k - 1 in the taps). -/
def Mix.sample (m : Mix) (k : Nat) (fromSample toSample : Int) : Int :=
  let faded : Int := 48 * (m.step - 1 : Nat) + k
  let mixed := (48 * m.length - faded) * fromSample + faded * toSample
  let gain := glide (amplitude m.gainBefore) (amplitude m.gainAfter) k
  let gate := glide (amplitude m.gateBefore) (amplitude m.gateAfter) k
  roundedQuotient (mixed * gain * gate) (48 * m.length * (48 * Config.amplitudeUnit) * (48 * Config.amplitudeUnit))

/-- The samples of a contribution from sample k on. -/
def Mix.samplesFrom (m : Mix) : Nat → List Int → List Int → List Int
  | k, x :: xs, y :: ys => m.sample k x y :: m.samplesFrom (k + 1) xs ys
  | _, _, _ => []

/-- R90: a crosspoint's contribution over the frame's 48 samples. -/
def Mix.contribution (m : Mix) : List Int := m.samplesFrom 1 m.tapFrom m.tapTo

/-- R90: whether a contribution is silence whatever the samples: one of its gains stays at the floor. -/
def Mix.silent (m : Mix) : Bool :=
  (m.gainBefore == -1000 && m.gainAfter == -1000) || (m.gateBefore == -1000 && m.gateAfter == -1000)

/-- The sum of two frames, sample by sample. -/
def addFrames (xs ys : List Int) : List Int := List.zipWith (· + ·) xs ys

end Sys2Proof.Machine
end

