-- ==== Sys2Proof/Machine/Codec.lean ====
section
/-! DEFINITION. Numbers and codes as bytes: the byte order of R165, the codes of Tables 9-2, 9-6, 10-4 and
10-11, and the time code of R3. -/

namespace Sys2Proof.Machine

/-! ### Numbers (R165) -/

/-- A number as one byte, taken modulo 256. -/
def byteOf (v : Int) : List Byte := [BitVec.ofInt 8 v]

/-- A number as two bytes, least significant byte first, in two's complement. -/
def word16 (v : Int) : List Byte :=
  let w := BitVec.ofInt 16 v
  [w.extractLsb' 0 8, w.extractLsb' 8 8]

/-- A number as four bytes, least significant byte first, in two's complement. -/
def word32 (v : Int) : List Byte :=
  let w := BitVec.ofInt 32 v
  [w.extractLsb' 0 8, w.extractLsb' 8 8, w.extractLsb' 16 8, w.extractLsb' 24 8]

/-- A flag as one byte (Table 10-4). -/
def flagByte (b : Bool) : List Byte := [if b then 1 else 0]

/-- R165: a label as its length byte and its characters. -/
def labelBytes (label : List Byte) : List Byte := byteOf label.length ++ label

/-- The byte at an offset of a body. -/
def byteAt (body : List Byte) (offset : Nat) : Byte := body.getD offset 0

/-- The unsigned one-byte field at an offset. -/
def natAt (body : List Byte) (offset : Nat) : Nat := (byteAt body offset).toNat

/-- The unsigned two-byte field at an offset. -/
def nat16At (body : List Byte) (offset : Nat) : Nat := natAt body offset + 256 * natAt body (offset + 1)

/-- The signed two-byte field at an offset. -/
def int16At (body : List Byte) (offset : Nat) : Int := (BitVec.ofNat 16 (nat16At body offset)).toInt

/-! ### Time codes (R3) -/

/-- R3: the duration of a time code in milliseconds, and so in frames. -/
def timeCodeMs (code : Nat) : Nat := if code ≤ 15 then 8 * code else 2 ^ (code - 15) - 1

/-! ### Codes read from a body (Table 10-4) -/

/-- Area codes, 0 NONE (Table 10-4). The outer `none` is a byte that is no code. -/
def areaOrNone? : Byte → Option (Option Area)
  | 0 => some none
  | 1 => some (some .a)
  | 2 => some (some .b)
  | 3 => some (some .c)
  | 4 => some (some .d)
  | _ => none

/-- An area that a request names as its target: NONE is out of range (R176). -/
def area? (b : Byte) : Option Area := (areaOrNone? b).join

def mode? : Byte → Option InputMode
  | 0 => some .off
  | 1 => some .direct
  | 2 => some .gated
  | _ => none

def flag? : Byte → Option Bool
  | 0 => some false
  | 1 => some true
  | _ => none

def pauseMode? : Byte → Option PauseMode
  | 0 => some .freeze
  | 1 => some .drain
  | 2 => some .track
  | _ => none

def expiryAction? : Byte → Option ExpiryAction
  | 0 => some .report
  | 1 => some .fallback
  | 2 => some .alert
  | _ => none

def protection? : Byte → Option Protection
  | 0 => some .unprotected
  | 1 => some .quarter
  | 2 => some .half
  | 3 => some .full
  | _ => none

/-- A number 1..n, as the index it names from 0. -/
def oneBased? (n : Nat) (b : Byte) : Option (Fin n) :=
  if h : 1 ≤ b.toNat ∧ b.toNat ≤ n then some ⟨b.toNat - 1, by omega⟩ else none

/-- A number 1..n or 0 for none. The outer `none` is a byte that is no code. -/
def zeroOrOneBased? (n : Nat) (b : Byte) : Option (Option (Fin n)) :=
  if b = 0 then some none else (oneBased? n b).map some

/-- A slot, 0..63. -/
def slot? (b : Byte) : Option (Fin 64) :=
  if h : b.toNat < 64 then some ⟨b.toNat, h⟩ else none

/-- A slot or FFh for NONE. The outer `none` is a byte that is no code. -/
def slotOrNone? (b : Byte) : Option (Option (Fin 64)) :=
  if b = 0xFF then some none else (slot? b).map some

/-- Table 9-6: the kind of a notice code. -/
def noticeKind? (b : Byte) : Option NoticeKind :=
  if b = 0 then none else NoticeKind.all[b.toNat - 1]?

/-! ### Codes sent in a reply (Tables 10-4 and 10-11) -/

/-- The number of an area, A as 1 (Table 10-4, R64). -/
def areaNumber : Area → Nat
  | .a => 1
  | .b => 2
  | .c => 3
  | .d => 4

def areaByte : Option Area → List Byte
  | none => [0]
  | some area => byteOf (areaNumber area)

def modeByte : InputMode → List Byte
  | .off => [0]
  | .direct => [1]
  | .gated => [2]

/-- A number from 1 for an index, or 0 for none. -/
def indexByte {n : Nat} : Option (Fin n) → List Byte
  | none => [0]
  | some i => byteOf (i.val + 1)

def slotByte : Option (Fin 64) → List Byte
  | none => [0xFF]
  | some i => byteOf i.val

def pauseModeByte : PauseMode → List Byte
  | .freeze => [0]
  | .drain => [1]
  | .track => [2]

def expiryActionByte : ExpiryAction → List Byte
  | .report => [0]
  | .fallback => [1]
  | .alert => [2]

def protectionByte : Protection → List Byte
  | .unprotected => [0]
  | .quarter => [1]
  | .half => [2]
  | .full => [3]

def gateStateByte : GateState → List Byte
  | .closed => [0]
  | .qualifying => [1]
  | .denied => [2]
  | .opened => [3]
  | .holding => [4]

def slotStateByte : Slot → List Byte
  | .empty => [0]
  | .valid _ => [1]
  | .incomplete => [2]

def storedStateByte {α : Type} : Stored α → List Byte
  | .valid _ => [1]
  | .incomplete => [2]

/-- An accepted level of a panel line: low, high or not yet accepted. -/
def acceptedByte : Option Bool → List Byte
  | some false => [0]
  | some true => [1]
  | none => [2]

def directionByte : Direction → List Byte
  | .noDirection => [0]
  | .clockwise => [1]
  | .anticlockwise => [2]

/-- Table 8-2: the status code of an alarm state. -/
def alarmStateCode : AlarmState → Nat
  | .disarmed => 0
  | .primed => 1
  | .armed => 2
  | .fault => 3

/-- The code of an override cause (Table 10-11), which is also the value of OVERRIDE (Table 9-6). -/
def overrideCode : OverrideCause → Nat
  | .noCause => 0
  | .alarm => 1
  | .expiry => 2

/-- R145: the code of a fault cause. -/
def faultCauseCode : FaultCause → Nat
  | .expiry => 1
  | .outOfSequence => 2

/-- R145: the code of an action taken. -/
def actionCode : ActionTaken → Nat
  | .noAction => 0
  | .report => 1
  | .fallbackMade => 2
  | .fallbackNotMade => 3
  | .alert => 4

def zoneSourceByte : ZoneSource → List Byte
  | .crosspointSum => [0]
  | .alarmSource => [1]

/-- Table 9-6: the code of a notice kind. -/
def noticeCode : NoticeKind → Nat
  | .delayClamped => 1
  | .climateStep => 2
  | .listChange => 3
  | .panelLevel => 4
  | .panelFault => 5
  | .storeDone => 6
  | .recordIncomplete => 7
  | .sceneRecalled => 8
  | .alarmState => 9
  | .override => 10
  | .supervisionFault => 11
  | .startup => 12
  | .keySwitch => 13

/-- R131: the operation code of STORE-DONE, which is also the kind STAT reports (Table 10-11). -/
def operationCode : StoreOp → Nat
  | .scst _ _ => 1
  | .scer _ => 2
  | .bldw _ => 3
  | .alcf _ => 4
  | .prot _ => 5

/-- R131: the subject number of a store operation's target. -/
def operationTarget : StoreOp → Nat
  | .scst slot _ => slot.val
  | .scer slot => slot.val
  | .bldw _ => 64
  | .alcf _ => 65
  | .prot _ => 66

/-- The results of Table 9-2. -/
inductive Result where
  | done
  | clamped
  | started
  | busy
  | locked
  | protected_
  | empty
  | damaged
  | order
  | latchClear
  | alert
  | badTarget
  | badLength
  | unknownKind
  | badValue
deriving DecidableEq, Repr

/-- The codes of Table 9-2. -/
def resultCode : Result → Byte
  | .done => 0x00
  | .clamped => 0x01
  | .started => 0x02
  | .busy => 0x10
  | .locked => 0x11
  | .protected_ => 0x12
  | .empty => 0x13
  | .damaged => 0x14
  | .order => 0x15
  | .latchClear => 0x16
  | .alert => 0x17
  | .badTarget => 0x20
  | .badLength => 0x21
  | .unknownKind => 0x22
  | .badValue => 0x23

end Sys2Proof.Machine
end

