-- ==== Sys2Proof/Machine/Ops.lean ====
section
/-! DEFINITION. The named operations over the part's state: one home per register, read and written here; the
crosspoint index (R1); the raising of notices (R160); effective areas (R94). -/

namespace Sys2Proof.Machine

/-! ### Indexes -/

/-- The index of an area in the tables of four, A first. -/
def areaIndex : Area → Fin 4
  | .a => 0
  | .b => 1
  | .c => 2
  | .d => 3

/-- The areas in order from A to D. -/
def allAreas : List Area := [.a, .b, .c, .d]

/-- R1: the crosspoint of an input and a zone, both counted from 0. -/
def crosspointOf (input : Fin 24) (zone : Fin 16) : Fin 384 := ⟨input.val * 16 + zone.val, by omega⟩

/-- R1: the input of a crosspoint. -/
def inputOf (x : Fin 384) : Fin 24 := ⟨x.val / 16, by omega⟩

/-- R1: the zone of a crosspoint. -/
def zoneOf (x : Fin 384) : Fin 16 := ⟨x.val % 16, by omega⟩

/-! ### Reading and writing one thing -/

def State.input (s : State) (i : Fin 24) : Input := s.inputs.get i

def State.setInput (s : State) (i : Fin 24) (x : Input) : State := { s with inputs := s.inputs.set i x }

def State.area (s : State) (area : Area) : AreaUnit := s.areas.get (areaIndex area)

def State.setArea (s : State) (area : Area) (u : AreaUnit) : State :=
  { s with areas := s.areas.set (areaIndex area) u }

def State.crosspoint (s : State) (x : Fin 384) : Crosspoint := s.crosspoints.get x

def State.setCrosspoint (s : State) (x : Fin 384) (p : Crosspoint) : State :=
  { s with crosspoints := s.crosspoints.set x p }

/-- The crosspoints that a test selects, each replaced by a function of its index and itself. -/
def State.updateCrosspoints (s : State) (which : Fin 384 → Bool) (f : Fin 384 → Crosspoint → Crosspoint) : State :=
  { s with crosspoints := s.crosspoints.mapIdx fun x p => if which x then f x p else p }

def State.zone (s : State) (z : Fin 16) : Zone := s.zones.get z

def State.setZone (s : State) (z : Fin 16) (x : Zone) : State := { s with zones := s.zones.set z x }

def State.panel (s : State) (p : Fin 8) : Panel := s.panels.get p

def State.setPanel (s : State) (p : Fin 8) (x : Panel) : State := { s with panels := s.panels.set p x }

def State.station (s : State) (n : Fin 32) : Station := s.stations.get n

def State.slot (s : State) (k : Fin 64) : Slot := s.store.slots.get k

def State.line (s : State) : Line → LineState
  | .control => s.control
  | .safety => s.safety

def State.setLine (s : State) (line : Line) (l : LineState) : State :=
  match line with
  | .control => { s with control := l }
  | .safety => { s with safety := l }

/-! ### Notices (R160) -/

/-- R160: a notice is raised. It is queued if its kind is subscribed and there is room; for lack of room it
is discarded and the overflow indicator set. -/
def State.raise (s : State) (kind : NoticeKind) (subject : Nat) (value : Int) : State :=
  if s.subscribed.contains kind then
    if s.queue.length < 32 then { s with queue := s.queue ++ [⟨kind, s.stamp, subject, value⟩] }
    else { s with overflow := true }
  else s

/-! ### Effective areas (R94) and pauses (R59) -/

/-- R94: the lead of an area; an area that is alone is its own lead. -/
def State.leadOf (s : State) (area : Area) : Area := ((s.area area).joinedInto).getD area

/-- R43: the list of an area is in use while the area is not joined into another. -/
def State.inUse (s : State) (area : Area) : Bool := (s.area area).joinedInto.isNone

/-- R94: the effective area of an input. -/
def State.inputArea (s : State) (i : Fin 24) : Option Area := (s.input i).settings.area.map s.leadOf

/-- R94: the effective area of a zone. -/
def State.zoneArea (s : State) (z : Fin 16) : Option Area := (s.zone z).scene.area.map s.leadOf

/-- R59: whether an area's own flag is set and its own pause mode is the one named. -/
def AreaUnit.pausedIn (u : AreaUnit) (mode : PauseMode) : Bool := u.paused && u.settings.pauseMode == mode

/-- R28, R35: whether an input's effective area is paused in FREEZE mode. -/
def State.frozen (s : State) (i : Fin 24) : Bool :=
  match s.inputArea i with
  | none => false
  | some area => (s.area area).pausedIn .freeze

/-- Whether an input is GATED and its effective area is the one named. -/
def State.gatedIn (s : State) (area : Area) (i : Fin 24) : Bool :=
  (s.input i).settings.mode == .gated && s.inputArea i == some area

/-- R43: whether an input is an entry of the open list of its effective area. -/
def State.isEntry (s : State) (i : Fin 24) : Bool :=
  match s.inputArea i with
  | none => false
  | some area => (s.area area).list.any fun e => e.input == i

/-! ### What a command leaves when the part has no power -/

/-- An event of a part that has power; without power nothing happens (log 3). -/
def State.whenPowered (s : State) (event : State → State) : Host.Outcome State Fault Refusal :=
  .next (if s.powered then event s else s)

end Sys2Proof.Machine
end

