-- ==== Sys2Proof/Machine/Geometry.lean ====
section
/-! DEFINITION. The Geometry Unit's arithmetic: distance (R14), speed of sound (R15), geometric term (R16)
and delay target (R17). -/

namespace Sys2Proof.Machine

/-- The greatest number below 2^bits, added to a start, whose square does not exceed n. -/
def squareRootFrom (n : Nat) : Nat → Nat → Nat
  | 0, found => found
  | bits + 1, found =>
    let next := found + 2 ^ bits
    squareRootFrom n bits (if next * next ≤ n then next else found)

/-- R14, step 3: the largest whole number whose square does not exceed n, for n below 2^48. -/
def squareRoot (n : Nat) : Nat := squareRootFrom n 24 0

/-- The difference of two coordinates, taken without sign. -/
def coordinateGap (p q : Nat) : Nat := if p ≤ q then q - p else p - q

/-- R14, steps 1 and 2: the sum of the squared differences. -/
def squaredDistance (p q : Point) : Nat :=
  coordinateGap p.x q.x ^ 2 + coordinateGap p.y q.y ^ 2 + coordinateGap p.z q.z ^ 2

/-- R14, steps 3 and 4: the square root of the sum, to the nearest whole number. -/
def roundedRoot (n : Nat) : Nat :=
  let f := squareRoot n
  if f < n - f * f then f + 1 else f

/-- R14: the distance between two points in whole centimetres. -/
def distance (p q : Point) : Nat := roundedRoot (squaredDistance p q)

/-- R15: the rounded value of 6.06 times a temperature, halves away from zero. -/
def roundedTemperatureTerm (tu : Int) : Int := tu.sign * ((606 * tu.natAbs + 50) / 100 : Nat)

/-- R15: the speed of sound in centimetres per second. -/
def speedOfSound (tu : Int) : Int := 33131 + roundedTemperatureTerm tu

/-- R16, step 4: a path difference in samples, halves up. -/
def samplesOfPath (path speed : Nat) : Nat := (2 * (path * 48000) + speed) / (2 * speed)

/-- R16: the geometric term of a talker position (none: unplaced) and a zone. -/
def geometricTerm (talker : Option Point) (zone : ZoneGeometry) (tu : Int) : Nat :=
  match talker with
  | none => 0
  | some p =>
    let d1 := distance p zone.listener
    let d2 := distance zone.speaker zone.listener
    if d1 ≤ d2 then 0 else samplesOfPath (d1 - d2) (speedOfSound tu).toNat

/-- R17: the sum from which a delay target is taken. -/
def delaySum (talker : Option Point) (zone : ZoneGeometry) (tu : Int) : Nat :=
  geometricTerm talker zone tu + zone.precedence + zone.extra

/-- R4: the position of an input's station, or none when the input is unplaced. -/
def State.talker (s : State) (i : Fin 24) : Option Point :=
  match (s.input i).settings.station with
  | none => none
  | some n => if (s.station n).defined then some (s.station n).point else none

/-- R17: the unclamped sum of a crosspoint from the live geometry. -/
def State.delaySumOf (s : State) (x : Fin 384) : Nat :=
  delaySum (s.talker (inputOf x)) (s.zone (zoneOf x)).geometry s.used

end Sys2Proof.Machine
end

