-- ==== Sys2Proof/Machine/Plan.lean ====
section
/-! DEFINITION. The Crosspoint Plan (chapter 4): live flags, gain targets, gain ramps, delay moves, snaps,
recomputes of delay targets (section 1.6) and the plan's frame step with the zone output stage. -/

namespace Sys2Proof.Machine

/-! ### Live flags and gain targets (R68, R76) -/

/-- R68: whether a crosspoint with a given send is live. -/
def State.liveOf (s : State) (x : Fin 384) (send : Int) : Bool :=
  (s.input (inputOf x)).settings.mode != .off
    && (s.inputArea (inputOf x)).isSome
    && s.inputArea (inputOf x) == s.zoneArea (zoneOf x)
    && send != -1000

/-- R76, steps 4 and 5: a sum of gains within the range of the floor convention. -/
def gainWithin (sum : Int) : Int := if 120 < sum then 120 else if sum < -600 then -1000 else sum

/-- R76, step 3: the attenuation that applies to an input's crosspoints. -/
def State.attenuation (s : State) (i : Fin 24) : Nat :=
  match (s.input i).settings.mode, s.inputArea i with
  | .gated, some area => (s.area area).nom
  | _, _ => 0

/-- R76: the gain target of a crosspoint record. -/
def State.gainTargetOf (s : State) (x : Fin 384) (p : Crosspoint) : Int :=
  if p.live then
    gainWithin (p.send + (s.zone (zoneOf x)).scene.level + (s.zone (zoneOf x)).trim - s.attenuation (inputOf x))
  else -1000

/-- R77: the gain targets of the crosspoints that a test selects, composed afresh. -/
def State.recompose (s : State) (which : Fin 384 → Bool) : State :=
  s.updateCrosspoints which fun x p => { p with targetGain := s.gainTargetOf x p }

/-- R68: the live flags of the crosspoints that a test selects, evaluated afresh. -/
def State.relive (s : State) (which : Fin 384 → Bool) : State :=
  s.updateCrosspoints which fun x p => { p with live := s.liveOf x p.send }

/-- R69: live flags, then gain targets. -/
def State.reevaluate (s : State) (which : Fin 384 → Bool) : State := (s.relive which).recompose which

/-- The 16 crosspoints of an input. -/
def ofInput (i : Fin 24) (x : Fin 384) : Bool := inputOf x == i

/-- The 24 crosspoints of a zone. -/
def ofZone (z : Fin 16) (x : Fin 384) : Bool := zoneOf x == z

/-- All 384 crosspoints. -/
def everyCrosspoint (_ : Fin 384) : Bool := true

/-! ### Delay targets (R80 to R82, R86) -/

/-- R80: whether a crosspoint with this record is inaudible. -/
def State.inaudible (s : State) (x : Fin 384) (p : Crosspoint) : Bool :=
  decide (p.activeGain = -1000)
    || ((s.input (inputOf x)).settings.mode == .gated && decide ((s.input (inputOf x)).gain = -1000))

/-- The duration in frames of a zone's move time code in force. -/
def State.moveFrames (s : State) (z : Fin 16) : Nat := timeCodeMs (s.zone z).geometry.moveCode

/-- R81, R82: a delay target arrives at a crosspoint, which is inaudible or not, in a zone whose move time
is `frames`. -/
def Crosspoint.arrive (p : Crosspoint) (inaudible : Bool) (frames target : Nat) : Crosspoint :=
  match p.move with
  | none =>
    if target = p.activeDelay then { p with targetDelay := target }
    else if inaudible ∨ frames = 0 then { p with targetDelay := target, activeDelay := target }
    else { p with targetDelay := target, move := some ⟨target, 0, frames⟩ }
  | some m =>
    { p with targetDelay := target, pendingDelay := if target = m.dest then none else some target }

/-- R86: a snap. -/
def Crosspoint.snap (p : Crosspoint) : Crosspoint :=
  { p with activeDelay := p.targetDelay, move := none, pendingDelay := none }

/-- R17: the delay target computed for a crosspoint arrives at it, and its clamp flag is set or cleared. -/
def State.retimed (s : State) (x : Fin 384) (p : Crosspoint) : Crosspoint :=
  { p.arrive (s.inaudible x p) (s.moveFrames (zoneOf x)) (min (s.delaySumOf x) 16383) with
    clamp := decide (16383 < s.delaySumOf x) }

/-- R18: the notice of one clamped crosspoint. -/
def State.raiseClamped (s : State) (x : Fin 384) : State :=
  if 16383 < s.delaySumOf x then s.raise .delayClamped x.val (s.delaySumOf x) else s

/-- R19, R20: a recompute of the crosspoints that a test selects. The targets are handed over together, and
the notices raised in ascending crosspoint index. -/
def State.retime (s : State) (which : Fin 384 → Bool) : State :=
  ((List.finRange 384).filter which).foldl State.raiseClamped (s.updateCrosspoints which s.retimed)

/-! ### The plan step of one crosspoint (R78, R83, R84) -/

/-- R78: the active gain after one step at a slew. -/
def rampGain (slew : Nat) (active target : Int) : Int :=
  if active = target then active
  else if active < target then
    if active = -1000 then -600 else min (active + slew) target
  else if target = -1000 then
    if active - slew < -600 then -1000 else active - slew
  else max (active - slew) target

/-- R84: the end of a move: the active delay becomes T, and a pending delay arrives. -/
def Crosspoint.endMove (p : Crosspoint) (inaudible : Bool) (frames : Nat) : Crosspoint :=
  match p.move with
  | none => p
  | some m =>
    let steady := { p with activeDelay := m.dest, move := none, pendingDelay := none }
    match p.pendingDelay with
    | none => steady
    | some q => steady.arrive inaudible frames q

/-- R83: a MOVING crosspoint's elapsed count goes up by 1. -/
def Crosspoint.advance (p : Crosspoint) : Crosspoint :=
  { p with move := p.move.map fun m => { m with elapsed := m.elapsed + 1 } }

/-- Whether a crosspoint's move has come to its end. -/
def Crosspoint.moveOver (p : Crosspoint) : Bool := p.move.any fun m => decide (m.length ≤ m.elapsed)

/-- R84: the move of a crosspoint ends if its elapsed count has reached its length. Audibility is judged from
the gains as they stand then (log 15). -/
def State.settleMove (s : State) (x : Fin 384) (p : Crosspoint) : Crosspoint :=
  if p.moveOver then p.endMove (s.inaudible x p) (s.moveFrames (zoneOf x)) else p

/-- R78, R83, R84: a crosspoint's plan step: its gain ramps, its move advances, and a move that is over
ends. -/
def State.stepped (s : State) (x : Fin 384) (p : Crosspoint) : Crosspoint :=
  s.settleMove x
    { p.advance with activeGain := rampGain (s.zone (zoneOf x)).geometry.slew p.activeGain p.targetGain }

/-! ### The zone output stage (R90, R91, R147) -/

/-- R83, R90: what the crosspoint's contribution of this frame is made of, before the plan step changes the
record. -/
def State.mixOf (s : State) (audio : AudioFrame) (x : Fin 384) : Mix :=
  let p := s.crosspoint x
  let input := s.input (inputOf x)
  let memory := input.tapped (audio.inputs.getD (inputOf x).val [])
  { tapFrom := tap memory p.activeDelay
    tapTo := tap memory (match p.move with | none => p.activeDelay | some m => m.dest)
    step := match p.move with | none => 1 | some m => m.elapsed + 1
    length := match p.move with | none => 1 | some m => m.length
    gainBefore := p.activeGain
    gainAfter := rampGain (s.zone (zoneOf x)).geometry.slew p.activeGain p.targetGain
    gateBefore := input.gainUsed
    gateAfter := input.gain }

/-- R90: a zone's crosspoint sum for this frame, held at full scale. -/
def State.crosspointSum (s : State) (audio : AudioFrame) (z : Fin 16) : List Int :=
  let mixes := ((List.finRange 24).map fun i => s.mixOf audio (crosspointOf i z)).filter fun m => !m.silent
  (mixes.foldl (fun sum m => addFrames sum m.contribution) (List.replicate 48 0)).map limitToFullScale

/-- R91, R147: what a zone output carries for this frame: the crosspoint sum, or the alarm source at the
zone's alarm level. -/
def State.zoneOutput (s : State) (audio : AudioFrame) (z : Fin 16) : List Int :=
  match (s.zone z).selected with
  | .crosspointSum => s.crosspointSum audio z
  | .alarmSource => audio.source.map (scaleSample (s.zone z).levelInEffect)

/-- R78, R90, R91: the plan's frame step over all 384 crosspoints, as one event, with the zones' sums and
outputs of the frame and the gate gains it used. Where an ALOF of this frame came before it, the gains rise from the
floor here, under the held output, and the first sum that is put out begins at -600: DESIGN CHOICE (log 25). -/
def State.planFrameStep (s : State) (audio : AudioFrame) : State :=
  { s with
    crosspoints := s.crosspoints.mapIdx s.stepped
    zones := s.zones.mapIdx fun z x => { x with sum := s.crosspointSum audio z, output := s.zoneOutput audio z }
    inputs := s.inputs.mapIdx fun _ x => { x with gainUsed := x.gain } }

/-! ### Snaps (R86 to R88) -/

/-- R86: a snap of all 384 crosspoints. -/
def State.snapAll (s : State) : State := s.updateCrosspoints everyCrosspoint fun _ p => p.snap

/-- R87: a SNAP of the crosspoints that a test selects: snapped, with the active gain at its target. -/
def State.snapToTargets (s : State) (which : Fin 384 → Bool) : State :=
  s.updateCrosspoints which fun _ p => { p.snap with activeGain := p.targetGain }

/-- R88: the floor reset. -/
def State.floorReset (s : State) : State :=
  s.updateCrosspoints everyCrosspoint fun _ p => { p.snap with activeGain := -1000 }

end Sys2Proof.Machine
end

