-- ==== Sys2Proof/Machine/OpenList.lean ====
section
/-! DEFINITION. The Open List Unit (chapter 3) and what it does at an Input Channel: gate-gain targets (R36,
R39), NOM attenuation (R58), removals (R34, R64), victim order (R49), admissions (R50), quiet and loud
frames (R53), hold expiries (R55), hold ticks (R54) and area settings (R47, R48). -/

namespace Sys2Proof.Machine

/-! ### Gate-gain targets (R36, R39) -/

/-- R36, Table 2-3: the gate-gain target of an input. -/
def State.gateTargetOf (s : State) (i : Fin 24) : Int :=
  match (s.input i).settings.mode with
  | .off => -1000
  | .direct => 0
  | .gated =>
    match s.inputArea i with
    | none => -1000
    | some area => if s.isEntry i && !(s.area area).paused then 0 else (s.area area).settings.depth

/-- R39: whether a new target lies on the other side of a gain that is ramping. -/
def Input.reverses (x : Input) (target : Int) : Bool :=
  decide ((x.gain < x.target ∧ target < x.gain) ∨ (x.target < x.gain ∧ x.gain < target))

/-- R36, R39: an input takes a gate-gain target; a reversal is counted up to 255. -/
def Input.aim (x : Input) (target : Int) : Input :=
  { x with target, reversals := if x.reverses target then min 255 (x.reversals + 1) else x.reversals }

/-- R36: the gate-gain targets of the inputs that a test selects, evaluated afresh. -/
def State.retarget (s : State) (which : Fin 24 → Bool) : State :=
  { s with inputs := s.inputs.mapIdx fun i x => if which i then x.aim (s.gateTargetOf i) else x }

/-- R36, R121 stage 8: every gate-gain target evaluated afresh by a recall or a start-up, which leaves the reversal
counts as they stand (R42, R122). DEDUCED (log 24): R39 would count a target that a recall takes across a
ramping gain. -/
def State.retargetStanding (s : State) : State :=
  { s with inputs := s.inputs.mapIdx fun i x => { x with target := s.gateTargetOf i } }

/-- One input. -/
def onlyInput (i j : Fin 24) : Bool := i == j

/-! ### NOM attenuation (R58) -/

/-- R58: the attenuation of a list of a given length. -/
def nomOfLength (n : Nat) : Nat := ([0, 0, 30, 48, 60, 70, 78, 85, 90] : List Nat).getD n 90

/-- R58: the attenuation of an area; 0 when it is joined into a lead. -/
def State.nomOf (s : State) (area : Area) : Nat :=
  if s.inUse area then nomOfLength (s.area area).list.length else 0

/-- The attenuation of an area takes its value, and nothing is composed. -/
def State.setNom (s : State) (area : Area) : State :=
  s.setArea area { s.area area with nom := s.nomOf area }

/-- Table 4-3: the live crosspoints of the GATED inputs whose effective area is the one named. -/
def State.attenuatedBy (s : State) (area : Area) (x : Fin 384) : Bool :=
  (s.crosspoint x).live && s.gatedIn area (inputOf x)

/-- R58, R77: the attenuation of an area recomputed, and handed to the plan where it differs. -/
def State.updateNom (s : State) (area : Area) : State :=
  if s.nomOf area = (s.area area).nom then s
  else (s.setNom area).recompose ((s.setNom area).attenuatedBy area)

/-! ### Entries leaving a list (R34, R64) -/

/-- The reasons of Table 3-3. -/
inductive ListReason where
  | admitted
  | evicted
  | expired
  | withdrawn
  | reduced
  | released
  | overflow
deriving DecidableEq, Repr

/-- Table 3-3: the code of a reason. -/
def listReasonCode : ListReason → Nat
  | .admitted => 1
  | .evicted => 2
  | .expired => 3
  | .withdrawn => 4
  | .reduced => 5
  | .released => 6
  | .overflow => 7

/-- R64: LIST-CHANGE for an input, with the list's length as it now stands. -/
def State.raiseListChange (s : State) (area : Area) (reason : ListReason) (i : Fin 24) : State :=
  s.raise .listChange (i.val + 1)
    (areaNumber area * 65536 + listReasonCode reason * 256 + (s.area area).list.length : Nat)

/-- The list of an area replaced. -/
def State.setList (s : State) (area : Area) (list : List Entry) : State :=
  s.setArea area { s.area area with list }

/-- R34: an input becomes CLOSED with its QUALIFYING count cleared. -/
def State.closeGate (s : State) (i : Fin 24) : State :=
  s.setInput i { s.input i with gate := .closed, qualifying := 0 }

/-- R34, R64: an entry leaves its list for a reason, and its input becomes CLOSED. The gate-gain target and
the NOM attenuation are left to the event. -/
def State.dropEntry (s : State) (area : Area) (reason : ListReason) (i : Fin 24) : State :=
  ((s.setList area ((s.area area).list.eraseP fun e => e.input == i)).closeGate i).raiseListChange area reason i

/-- Entries that leave one after the other, in the order given. -/
def State.dropEntries (s : State) (area : Area) (reason : ListReason) (inputs : List (Fin 24)) : State :=
  inputs.foldl (fun s i => s.dropEntry area reason i) s

/-- R48, R50, R61, R97, R100: the retained entries of a list are removed with reason RELEASED. -/
def State.releaseRetained (s : State) (area : Area) : State :=
  s.dropEntries area .released (((s.area area).list.filter fun e => e.retained).map fun e => e.input)

/-! ### Victim order (R49) -/

/-- R43: an entry's state is HOLDING when its input's gate state is. -/
def State.holds (s : State) (e : Entry) : Bool := (s.input e.input).gate == .holding

/-- R49, lines 1 and 2: whether an entry comes before another wherever they stand in the list. -/
def State.beforeInVictimOrder (s : State) (e f : Entry) : Bool :=
  if s.holds e = s.holds f then decide (e.priority < f.priority) else s.holds e

/-- R49: the first entry in victim order of entries given from the head of their list. -/
def State.firstVictim (s : State) : List Entry → Option Entry
  | [] => none
  | e :: rest =>
    match s.firstVictim rest with
    | none => some e
    | some f => if s.beforeInVictimOrder f e then some f else some e

/-- R47, R97, R100: entries are removed in victim order, a given number of them. -/
def State.shed (s : State) (area : Area) (reason : ListReason) : Nat → State
  | 0 => s
  | n + 1 =>
    match s.firstVictim (s.area area).list with
    | none => s
    | some e => (s.dropEntry area reason e.input).shed area reason n

/-- R47, R97, R100: a list is brought to its area's max open. -/
def State.shedToMaxOpen (s : State) (area : Area) (reason : ListReason) : State :=
  s.shed area reason ((s.area area).list.length - (s.area area).settings.maxOpen)

/-! ### Admission (R50, R51) -/

/-- R50, step 4: whether an entry is eligible against a request of priority p and level l. -/
def State.eligible (s : State) (area : Area) (p : Nat) (l : Int) (e : Entry) : Bool :=
  let margin := (s.area area).settings.margin
  if s.holds e then decide (e.priority ≤ p)
  else decide (e.priority < p)
    || (decide (margin ≠ 0 ∧ e.priority = p) && decide ((s.input e.input).level ≤ l - margin))

/-- R32: the request is refused and its input becomes DENIED. -/
def State.denyGate (s : State) (i : Fin 24) : State :=
  s.setInput i { s.input i with gate := .denied, qualifying := 0 }

/-- R44, R51: the requesting input is appended and becomes OPEN. -/
def State.appendEntry (s : State) (area : Area) (i : Fin 24) (p : Nat) (l : Int) : State :=
  let u := s.area area
  let entry : Entry :=
    { input := i, priority := p, stamp := s.stamp, retained := false, hold := 0, openingLevel := l,
      ticked := u.tickTaken }
  let s := s.setList area (u.list ++ [entry])
  let s := s.setInput i { s.input i with gate := .opened, qualifying := 0 }
  (s.retarget (onlyInput i)).raiseListChange area .admitted i

/-- R51: a removal made by an admission, with the removed input's gate-gain target evaluated afresh. -/
def State.dropAndRetarget (s : State) (area : Area) (reason : ListReason) (i : Fin 24) : State :=
  (s.dropEntry area reason i).retarget (onlyInput i)

/-- R50, step 2: a retained entry gives way before anything else. -/
def State.giveWay (s : State) (area : Area) : State :=
  match (s.area area).list.find? fun e => e.retained with
  | none => s
  | some e => s.dropAndRetarget area .released e.input

/-- R50, R51: an admission request of an input with a priority and a level, settled at an area's list. -/
def State.settleRequest (s : State) (area : Area) (i : Fin 24) (p : Nat) (l : Int) : State :=
  if (s.area area).pausedIn .freeze || (s.area area).pausedIn .drain then s.denyGate i
  else
    let s := s.giveWay area
    if (s.area area).list.length < (s.area area).settings.maxOpen then
      (s.appendEntry area i p l).updateNom area
    else
      match s.firstVictim ((s.area area).list.filter (s.eligible area p l)) with
      | none => s.denyGate i
      | some e => ((s.dropAndRetarget area .evicted e.input).appendEntry area i p l).updateNom area

/-- R32: an admission request goes to the list of the input's effective area; an input of area NONE is
DENIED without one. -/
def State.requestAdmission (s : State) (i : Fin 24) : State :=
  match s.inputArea i with
  | none => s.denyGate i
  | some area => s.settleRequest area i (s.input i).settings.priority (s.input i).level

/-! ### Quiet and loud frames, and hold expiries (R53, R55) -/

/-- The entry of an input changed where it stands. -/
def State.updateEntry (s : State) (area : Area) (i : Fin 24) (f : Entry → Entry) : State :=
  s.setList area ((s.area area).list.map fun e => if e.input == i then f e else e)

/-- R55: whether a hold expiry of an input's entry retains it. -/
def State.retains (s : State) (area : Area) (i : Fin 24) : Bool :=
  (s.area area).settings.lastMicHold && (s.input i).settings.lastMic
    && decide ((s.area area).list.length = 1) && !(s.area area).pausedIn .drain

/-- R55: a hold expiry: the entry is retained, or removed with reason EXPIRED. -/
def State.expireHold (s : State) (area : Area) (i : Fin 24) : State :=
  if s.retains area i then s.updateEntry area i fun e => { e with retained := true, hold := 0 }
  else s.dropAndRetarget area .expired i

/-- The gate state of an input changed. -/
def State.setGate (s : State) (i : Fin 24) (gate : GateState) : State :=
  s.setInput i { s.input i with gate }

/-- R33, R53: a quiet frame of an OPEN input. A hold of 0 expires in the same event. -/
def State.quietFrame (s : State) (i : Fin 24) : State :=
  match s.inputArea i with
  | none => s.setGate i .holding
  | some area =>
    let hold := timeCodeMs (s.input i).settings.holdCode
    let s := (s.updateEntry area i fun e => { e with hold }).setGate i .holding
    if hold = 0 then (s.expireHold area i).updateNom area else s

/-- R33, R53: a loud frame of a HOLDING input. -/
def State.loudFrame (s : State) (i : Fin 24) : State :=
  match s.inputArea i with
  | none => s.setGate i .opened
  | some area => (s.updateEntry area i fun e => { e with retained := false, hold := 0 }).setGate i .opened

/-! ### Hold ticks (R54, R102) -/

/-- R54, R102: whether an entry's hold remaining decreases in its list's tick: it is HOLDING, not retained,
and has taken no tick in this frame. -/
def State.holdRuns (s : State) (e : Entry) : Bool := s.holds e && !e.retained && !e.ticked

/-- R54: an entry after its list's tick. -/
def State.tickedEntry (s : State) (e : Entry) : Entry :=
  { e with hold := if s.holdRuns e then e.hold - 1 else e.hold, ticked := true }

/-- R54: whether a list takes a hold tick now: it is in use, not in a FREEZE pause, and has taken none in
this frame. -/
def State.tickDue (s : State) (area : Area) : Bool :=
  s.inUse area && !(s.area area).pausedIn .freeze && !(s.area area).tickTaken

/-- R54: the inputs whose holds reach 0 in a list's tick, in list order from the head. -/
def State.expiringInputs (s : State) (area : Area) : List (Fin 24) :=
  ((s.area area).list.filter fun e => s.holdRuns e && decide ((s.tickedEntry e).hold = 0)).map fun e => e.input

/-- R54: the hold tick of one list, with the expiries taken one after the other. -/
def State.holdTick (s : State) (area : Area) : State :=
  if s.tickDue area then
    let u := s.area area
    let ticked := s.setArea area { u with list := u.list.map s.tickedEntry, tickTaken := true }
    ((s.expiringInputs area).foldl (fun s i => s.expireHold area i) ticked).updateNom area
  else s

/-- R55: whether an input's entry is at the end of its hold: HOLDING, not retained, with nothing left. -/
def State.expiryDue (s : State) (area : Area) (i : Fin 24) : Bool :=
  (s.area area).list.any fun e => e.input == i && s.holds e && !e.retained && decide (e.hold = 0)

/-! ### Area settings and pauses (R47, R48, R61) -/

/-- R47, R48, R61: what new settings do to the list of an area in use that held `old` before: the reduction,
the release of a retained entry when last-mic hold is turned off, and the entry into a DRAIN pause. -/
def State.applySettings (s : State) (area : Area) (old : AreaSettings) : State :=
  let s := s.shedToMaxOpen area .reduced
  let new := (s.area area).settings
  let s := if old.lastMicHold && !new.lastMicHold then s.releaseRetained area else s
  if (s.area area).pausedIn .drain && old.pauseMode != .drain then s.releaseRetained area else s

end Sys2Proof.Machine
end

