-- ==== Sys2Proof/Machine/Gate.lean ====
section
/-! DEFINITION. One frame at an Input Channel (chapter 2): the level (R27), the bands (R29), the gate (R31 to
R33), the noise-floor estimate (R28) and the gate gain (R37, R38), in the five stages of R30. -/

namespace Sys2Proof.Machine

/-- R29: the open threshold. -/
def Input.openThreshold (x : Input) : Int := x.noiseFloor + x.settings.offset

/-- R29: the close threshold. -/
def Input.closeThreshold (x : Input) : Int := x.openThreshold - 30

/-- The bands of R29. -/
inductive Band where
  | loud
  | middle
  | quiet
deriving DecidableEq, Repr

/-- R29: the band of a level at an input. -/
def Input.band (x : Input) (level : Int) : Band :=
  if x.openThreshold ≤ level then .loud else if x.closeThreshold ≤ level then .middle else .quiet

/-- R28: the estimate F and the rise count after a tracked frame. -/
def Input.track (x : Input) (level : Int) : Input :=
  if level < x.noiseFloor then { x with noiseFloor := max level (-900), rise := 0 }
  else if level = x.noiseFloor then { x with rise := 0 }
  else if 64 ≤ x.rise + 1 then { x with noiseFloor := min (x.noiseFloor + 1) (-300), rise := 0 }
  else { x with rise := x.rise + 1 }

/-- R31: a loud frame of a CLOSED or QUALIFYING input, with its new count: a count that has reached the
debounce sends an admission request. -/
def State.qualify (s : State) (i : Fin 24) (count : Nat) : State :=
  let s := s.setInput i { s.input i with gate := .qualifying, qualifying := count }
  if (s.input i).settings.debounce ≤ count then s.requestAdmission i else s

/-- R31 to R33: the gate of a GATED input acts on its frame's band. -/
def State.gateAct (s : State) (i : Fin 24) (band : Band) : State :=
  match (s.input i).gate, band with
  | .closed, .loud => s.qualify i 1
  | .closed, _ => s
  | .qualifying, .loud => s.qualify i ((s.input i).qualifying + 1)
  | .qualifying, _ => s.closeGate i
  | .denied, .loud => s.requestAdmission i
  | .denied, _ => s.closeGate i
  | .opened, .quiet => s.quietFrame i
  | .opened, _ => s
  | .holding, .loud => s.loudFrame i
  | .holding, _ => s

/-- R28: whether tracking applies for the gate state with which a frame began. -/
def tracksIn (gate : GateState) : Bool := gate == .closed || gate == .qualifying || gate == .denied

/-- R37, step 1: the depth that applies to an input. -/
def State.depthOf (s : State) (i : Fin 24) : Int :=
  match s.inputArea i with
  | none => -1000
  | some area => (s.area area).settings.depth

/-- R37, step 2: the span of a ramp. -/
def fadeSpan (depth : Int) : Nat := (0 - max depth (-600)).toNat

/-- R37, step 5: the span divided by the fade's length in frames, rounded up, and at least 1. -/
def fadeStep (span frames : Nat) : Nat := max 1 ((span + frames - 1) / frames)

/-- R37, step 3: the fade code of the direction in which the gain moves. -/
def Input.fadeCode (x : Input) : Nat :=
  if x.gain < x.target then x.settings.attackCode else x.settings.releaseCode

/-- R37, R38: the gate gain after stage 5. A gain at its target stays; a fade code of 0 reaches the target
at once; otherwise the gain moves by the step, as R38 and the floor convention give. -/
def Input.stepGain (x : Input) (depth : Int) : Input :=
  if x.gain = x.target then x
  else if x.fadeCode = 0 then { x with gain := x.target }
  else { x with gain := rampGain (fadeStep (fadeSpan depth) (timeCodeMs x.fadeCode)) x.gain x.target }

/-- R30, stage 1: the level of the frame, and its trimmed samples into the delay memory (R27, R89). -/
def Input.hear (x : Input) (samples : List Int) : Input :=
  { x with level := frameLevel x.settings.trim samples, memory := x.memoryWith samples, frameTaken := true }

/-- R30, stages 2 and 3: the band of the frame against the thresholds with which it began, and the gate. -/
def State.gateStage (s : State) (i : Fin 24) : State :=
  if (s.input i).settings.mode = .gated then s.gateAct i ((s.input i).band (s.input i).level) else s

/-- R30, stage 4: the estimate, where tracking applied when the frame began. -/
def State.trackStage (s : State) (i : Fin 24) (gateAtStart : GateState) : State :=
  if tracksIn gateAtStart then s.setInput i ((s.input i).track (s.input i).level) else s

/-- R30: one frame at an Input Channel. In a FREEZE pause stages 2 to 4 are not taken (R35). -/
def State.inputFrame (s : State) (i : Fin 24) (samples : List Int) : State :=
  let heard := s.setInput i ((s.input i).hear samples)
  let acted := if s.frozen i then heard else (heard.gateStage i).trackStage i (s.input i).gate
  acted.setInput i ((acted.input i).stepGain (acted.depthOf i))

end Sys2Proof.Machine
end

