-- ==== Sys2Proof/Machine/Areas.lean ====
section
/-! DEFINITION. The Area Map (chapter 5): the merging and dividing of lists at a join or split, their removal
passes (R96, R97, R99, R100), and the change of join map at a recall (R104). -/

namespace Sys2Proof.Machine

/-- R93: the join map entry of an area written. -/
def State.setJoin (s : State) (area : Area) (lead : Option Area) : State :=
  s.setArea area { s.area area with joinedInto := lead }

/-- R95: whether an area leads one or more others. -/
def State.leads (s : State) (area : Area) : Bool :=
  allAreas.any fun other => (s.area other).joinedInto == some area

/-- R96: the age of an entry: the present frame stamp less its admitted stamp, modulo 2^32. -/
def State.ageOf (s : State) (e : Entry) : Nat := (s.stamp - e.stamp).toNat

/-- R96: an entry put behind every entry of at least its age. -/
def State.insertByAge (s : State) (e : Entry) : List Entry → List Entry
  | [] => [e]
  | f :: rest => if s.ageOf e ≤ s.ageOf f then f :: s.insertByAge e rest else e :: f :: rest

/-- R96: two lists merged by age; on equal ages the lead's entries stand first (log 9). -/
def State.mergeByAge (s : State) (lead joined : List Entry) : List Entry :=
  (lead ++ joined).foldl (fun merged e => s.insertByAge e merged) []

/-- R102: an entry that leaves a list for another: where its old list's hold tick of this frame has been taken,
the new list's tick passes it by. -/
def AreaUnit.moved (u : AreaUnit) (e : Entry) : Entry := { e with ticked := e.ticked || u.tickTaken }

/-- R96: the join map entry of X is written, and X's list moves into Y's. -/
def State.mergeLists (s : State) (x y : Area) : State :=
  let merged := s.mergeByAge (s.area y).list ((s.area x).list.map (s.area x).moved)
  ((s.setJoin x (some y)).setList x []).setList y merged

/-- R97, pass 1: in a merged list of more than one entry no retained entry stays. -/
def State.releaseCompany (s : State) (area : Area) : State :=
  if 1 < (s.area area).list.length then s.releaseRetained area else s

/-- R97, R100, R56: whether an area lets no retained entry stand: its last-mic hold is off, or it is in a
DRAIN pause (log 8). -/
def State.retainsNone (s : State) (area : Area) : Bool :=
  !(s.area area).settings.lastMicHold || (s.area area).pausedIn .drain

/-- R97, pass 2, and R100, pass 2. -/
def State.releaseWhereNone (s : State) (area : Area) : State :=
  if s.retainsNone area then s.releaseRetained area else s

/-- R96, R97: the list effects of a join, NOM attenuation apart. -/
def State.joinLists (s : State) (x y : Area) : State :=
  (((s.mergeLists x y).releaseCompany y).releaseWhereNone y).shedToMaxOpen y .overflow

/-- R99: the join map entry of X is written as alone, and the entries of X's own inputs move from Y's list
into X's. -/
def State.divideList (s : State) (x y : Area) : State :=
  let own := fun e : Entry => (s.input e.input).settings.area == some x
  let list := (s.area y).list
  ((s.setJoin x none).setList x ((list.filter own).map (s.area y).moved)).setList y (list.filter fun e => !own e)

/-- R99, R100: the list effects of a split, NOM attenuation apart. -/
def State.splitLists (s : State) (x y : Area) : State :=
  ((s.divideList x y).shedToMaxOpen x .overflow).releaseWhereNone x

/-- R98, R100: what follows a join or split once the lists are settled: the gate-gain targets of the inputs
concerned, then every live flag and every gain target. -/
def State.afterMapChange (s : State) (which : Fin 24 → Bool) : State :=
  (s.retarget which).reevaluate everyCrosspoint

/-- The inputs that a removal of a join or split closed: entries before, and no entries now. -/
def State.lostEntry (before after : State) (i : Fin 24) : Bool :=
  allAreas.any (fun area => (before.area area).list.any fun e => e.input == i)
    && !allAreas.any (fun area => (after.area area).list.any fun e => e.input == i)

/-- R95 to R98: an accepted JOIN of X into Y. The gate-gain targets are those of the GATED inputs of X and of
the inputs that the passes removed. -/
def State.joinArea (s : State) (x y : Area) : State :=
  let lists := s.joinLists x y
  let nom := (lists.updateNom y).updateNom x
  nom.afterMapChange fun i =>
    ((s.input i).settings.mode == .gated && (s.input i).settings.area == some x) || State.lostEntry s lists i

/-- R99, R100: an accepted SPLT of X off its lead Y. -/
def State.splitArea (s : State) (x y : Area) : State :=
  let lists := s.splitLists x y
  let nom := (lists.updateNom x).updateNom y
  nom.afterMapChange fun i =>
    ((s.input i).settings.mode == .gated && (s.input i).settings.area == some x) || State.lostEntry s lists i

/-! ### A recall that changes the join map (R104) -/

/-- R104, first pass at one area: it is split if it is joined and its new entry differs. -/
def State.splitForMap (new : Area → Option Area) (s : State) (area : Area) : State :=
  match (s.area area).joinedInto with
  | none => s
  | some lead => if new area = some lead then s else s.splitLists area lead

/-- R104, second pass at one area: it is joined if the new map joins it and it is not joined so already. -/
def State.joinForMap (new : Area → Option Area) (s : State) (area : Area) : State :=
  match new area with
  | none => s
  | some lead => if (s.area area).joinedInto = some lead then s else s.joinLists area lead

/-- R104: the live join map reaches a new one by splits, then joins, each taken from A to D. -/
def State.changeMap (s : State) (new : Area → Option Area) : State :=
  allAreas.foldl (State.joinForMap new) (allAreas.foldl (State.splitForMap new) s)

end Sys2Proof.Machine
end

