-- ==== Sys2Proof/Machine/Flags.lean ====
section
/-! DEFINITION. The status byte (R158, Table 10-3) and the answering of a request (R155, R167). -/

namespace Sys2Proof.Machine

/-- R117: whether the accepted level of the key switch is LOCKED, the line low. Before the first acceptance
it reads as OPEN (R106). -/
def State.keyLocked (s : State) : Bool := s.key.accepted == some false

/-- R158, Table 10-3: the status byte of a reply formed now. -/
def State.statusByte (s : State) : Byte :=
  BitVec.ofNat 8 <|
    (if s.queue.isEmpty then 0 else 1) + (if s.overflow then 2 else 0)
      + (if s.alarm.cause = .noCause then 0 else 4) + 8 * alarmStateCode s.alarm.state
      + (if s.operation.isSome then 32 else 0) + (if s.keyLocked then 64 else 0) + (if s.latch then 128 else 0)

/-- How a request is settled: the state it leaves, its result and the data of its reply. -/
structure Answer where
  state : State
  result : Result
  data : List Byte := []

/-- A request refused with no effect (R157). -/
def State.refuse (s : State) (result : Result) : Answer := ⟨s, result, []⟩

/-- DONE, or CLAMPED where a value was clamped (R157). -/
def doneOrClamped (clamped : Bool) : Result := if clamped then .clamped else .done

/-- R155, R166, R167: the reply frame: the request's kind plus 80h, its tag, the result, the status byte as
the state stands, and the data. -/
def Answer.replyFrame (a : Answer) (kind tag : Byte) : List Byte :=
  frameOf (kind + 0x80) tag (resultCode a.result :: a.state.statusByte :: a.data)

/-- R155: the line's reply becomes pending, and its receiver hunts. The reply is formed in the request's own event,
so that no other event lies between the two: DESIGN CHOICE (log 26). -/
def Answer.settle (a : Answer) (line : Line) (kind tag : Byte) : State :=
  a.state.setLine line ⟨Receiver.hunting, some (a.replyFrame kind tag)⟩

/-- R155: whether a line takes what arrives on it: the part has power and no reply is pending there. -/
def State.listens (s : State) (line : Line) : Bool := s.powered && (s.line line).reply.isNone

end Sys2Proof.Machine
end

