-- ==== Sys2Proof/Machine/Operands.lean ====
section
/-! DEFINITION. The operands of requests: the bodies of Table 10-9 and Table 10-8, the sets whose values are
refused (R176), and the limits at which numbers are taken (R157, R175). A `read…` function gives the fields
as the bytes encode them, or none where a set field holds no code; a `limit` function gives the values
used. A request is clamped where the limit changes a value. -/

namespace Sys2Proof.Machine

/-! ### Limits (R157) -/

/-- A whole number taken at the nearer limit. -/
def limitInt (low high v : Int) : Int := if v < low then low else if high < v then high else v

/-- A natural number taken at the nearer limit. -/
def limitNat (low high v : Nat) : Nat := if v < low then low else if high < v then high else v

/-! ### Labels (R165, R174) -/

/-- R174: the label at an offset fits: its length byte is at most its greatest length and agrees with the
body's length. -/
def labelFits (body : List Byte) (offset greatest : Nat) : Bool :=
  decide (natAt body offset ≤ greatest ∧ body.length = offset + 1 + natAt body offset)

/-- The characters of the label at an offset. -/
def labelAt (body : List Byte) (offset : Nat) : List Byte := body.drop (offset + 1)

/-- R176: every character of a label lies in 20h..7Eh. -/
def labelOk (label : List Byte) : Bool := label.all fun c => decide (0x20 ≤ c.toNat ∧ c.toNat ≤ 0x7E)

/-! ### Input settings (R24, Table 10-8) -/

def readInputSettings (body : List Byte) (offset : Nat) : Option InputSettings :=
  match mode? (byteAt body offset), zeroOrOneBased? 32 (byteAt body (offset + 3)),
      areaOrNone? (byteAt body (offset + 4)), flag? (byteAt body (offset + 12)) with
  | some mode, some station, some area, some lastMic =>
    some { mode, trim := int16At body (offset + 1), station, area, priority := natAt body (offset + 5),
           offset := nat16At body (offset + 6), debounce := natAt body (offset + 8),
           holdCode := natAt body (offset + 9), attackCode := natAt body (offset + 10),
           releaseCode := natAt body (offset + 11), lastMic }
  | _, _, _, _ => none

/-- R24: the numeric fields at their limits. -/
def InputSettings.limit (x : InputSettings) : InputSettings :=
  { x with trim := limitInt (-200) 200 x.trim, priority := limitNat 0 3 x.priority,
           offset := limitNat 30 300 x.offset, debounce := limitNat 1 16 x.debounce,
           holdCode := limitNat 0 31 x.holdCode, attackCode := limitNat 0 31 x.attackCode,
           releaseCode := limitNat 0 31 x.releaseCode }

/-- Table 10-8: the record of an input's settings. -/
def InputSettings.bytes (x : InputSettings) : List Byte :=
  modeByte x.mode ++ word16 x.trim ++ indexByte x.station ++ areaByte x.area ++ byteOf x.priority
    ++ word16 x.offset ++ byteOf x.debounce ++ byteOf x.holdCode ++ byteOf x.attackCode ++ byteOf x.releaseCode
    ++ flagByte x.lastMic

/-! ### Zone scene fields (R73) -/

def readZoneScene (body : List Byte) (offset : Nat) : Option ZoneScene :=
  (areaOrNone? (byteAt body offset)).map fun area =>
    { area, level := int16At body (offset + 1), trimDefault := int16At body (offset + 3),
      trimMin := int16At body (offset + 5), trimMax := int16At body (offset + 7) }

/-- R73: the limits, then the trim default within the limits so taken. -/
def ZoneScene.limit (x : ZoneScene) : ZoneScene :=
  let low := limitInt (-300) 0 x.trimMin
  let high := limitInt 0 60 x.trimMax
  { x with level := limitInt (-600) 60 x.level, trimMin := low, trimMax := high,
           trimDefault := limitInt low high x.trimDefault }

/-- Table 10-9: the zone scene record. -/
def ZoneScene.bytes (x : ZoneScene) : List Byte :=
  areaByte x.area ++ word16 x.level ++ word16 x.trimDefault ++ word16 x.trimMin ++ word16 x.trimMax

/-! ### Points, stations and zone geometry (R5, R8) -/

def readPoint (body : List Byte) (offset : Nat) : Point :=
  ⟨nat16At body offset, nat16At body (offset + 2), nat16At body (offset + 4)⟩

def Point.limit (p : Point) : Point :=
  ⟨limitNat 0 32767 p.x, limitNat 0 32767 p.y, limitNat 0 32767 p.z⟩

def Point.bytes (p : Point) : List Byte := word16 p.x ++ word16 p.y ++ word16 p.z

def readStation (body : List Byte) (offset : Nat) : Option Station :=
  match flag? (byteAt body offset), labelOk (labelAt body (offset + 7)) with
  | some defined, true => some ⟨defined, labelAt body (offset + 7), readPoint body (offset + 1)⟩
  | _, _ => none

def Station.limit (x : Station) : Station := { x with point := x.point.limit }

def readZoneGeometry (body : List Byte) (offset : Nat) : Option ZoneGeometry :=
  if labelOk (labelAt body (offset + 18)) then
    some { label := labelAt body (offset + 18), speaker := readPoint body offset,
           listener := readPoint body (offset + 6), precedence := nat16At body (offset + 12),
           extra := nat16At body (offset + 14), moveCode := natAt body (offset + 16),
           slew := natAt body (offset + 17) }
  else none

/-- R8: the numeric fields at their limits. -/
def ZoneGeometry.limit (x : ZoneGeometry) : ZoneGeometry :=
  { x with speaker := x.speaker.limit, listener := x.listener.limit,
           precedence := limitNat 0 1023 x.precedence, extra := limitNat 0 4095 x.extra,
           moveCode := limitNat 0 31 x.moveCode, slew := limitNat 1 60 x.slew }

/-- Table 10-9: the zone geometry record. -/
def ZoneGeometry.bytes (x : ZoneGeometry) : List Byte :=
  x.speaker.bytes ++ x.listener.bytes ++ word16 x.precedence ++ word16 x.extra ++ byteOf x.moveCode
    ++ byteOf x.slew ++ labelBytes x.label

/-! ### Climate (R12) -/

/-- The parts of a CLIM that are present: the report, and the default temperature with the climate step. -/
structure ClimateParts where
  report : Option Int
  settings : Option (Int × Nat)
deriving DecidableEq, Repr

/-- R174: a parts byte with any of bits 2..7 set is no code; an absent part's fields are not read. -/
def readClimate (body : List Byte) : Option ClimateParts :=
  if natAt body 0 < 4 then
    some { report := if (byteAt body 0).getLsbD 0 then some (int16At body 1) else none,
           settings := if (byteAt body 0).getLsbD 1 then some (int16At body 3, natAt body 5) else none }
  else none

/-- R12: temperatures and the climate step at their limits. -/
def ClimateParts.limit (x : ClimateParts) : ClimateParts :=
  { report := x.report.map (limitInt (-200) 450),
    settings := x.settings.map fun p => (limitInt (-200) 450 p.1, limitNat 1 50 p.2) }

/-! ### Sends (R71) -/

/-- The send values of a SEND body, in order: the body's length less 2, divided by 2 (R174). -/
def readSends (body : List Byte) : List Int :=
  (List.range ((body.length - 2) / 2)).map fun k => int16At body (2 + 2 * k)

/-- R71: a value above 0 is taken as 0, and one below -600 as -1000. -/
def limitSend (v : Int) : Int := if 0 < v then 0 else if v < -600 then -1000 else v

/-! ### Area settings (R46) -/

def readAreaSettings (body : List Byte) (offset : Nat) : Option AreaSettings :=
  match flag? (byteAt body (offset + 1)), pauseMode? (byteAt body (offset + 6)) with
  | some lastMicHold, some pauseMode =>
    some { maxOpen := natAt body offset, lastMicHold, depth := int16At body (offset + 2),
           margin := nat16At body (offset + 4), pauseMode }
  | _, _ => none

/-- R46: a gate depth below -600 is taken as -1000 and one above -60 as -60. -/
def limitDepth (v : Int) : Int := if v < -600 then -1000 else if -60 < v then -60 else v

/-- R46: a takeover margin of 1 to 29 is taken as 30 and one above 200 as 200. -/
def limitMargin (v : Nat) : Nat := if v = 0 then 0 else limitNat 30 200 v

def AreaSettings.limit (x : AreaSettings) : AreaSettings :=
  { x with maxOpen := limitNat 1 8 x.maxOpen, depth := limitDepth x.depth, margin := limitMargin x.margin }

/-- Table 10-9: the area settings record. -/
def AreaSettings.bytes (x : AreaSettings) : List Byte :=
  byteOf x.maxOpen ++ flagByte x.lastMicHold ++ word16 x.depth ++ word16 x.margin ++ pauseModeByte x.pauseMode

/-! ### Panel settings (R114) -/

def readPanelSettings (body : List Byte) (offset : Nat) : Option (PanelScene × PanelBuilding) :=
  let edges := natAt body (offset + 2)
  match zeroOrOneBased? 16 (byteAt body offset), flag? (byteAt body (offset + 1)) with
  | some zone, some enabled =>
    if edges = 1 ∨ edges = 2 ∨ edges = 4 then
      some (⟨zone, enabled⟩,
        { edges, step := natAt body (offset + 3), filterCount := natAt body (offset + 4),
          threshold := int16At body (offset + 5) })
    else none
  | _, _ => none

/-- R114: the numeric fields at their limits. -/
def PanelBuilding.limit (x : PanelBuilding) : PanelBuilding :=
  { x with step := limitNat 1 30 x.step, filterCount := limitNat 2 15 x.filterCount,
           threshold := limitInt (-300) 60 x.threshold }

/-- Table 10-9: the panel settings record. -/
def panelSettingsBytes (scene : PanelScene) (building : PanelBuilding) : List Byte :=
  indexByte scene.zone ++ flagByte scene.enabled ++ byteOf building.edges ++ byteOf building.step
    ++ byteOf building.filterCount ++ word16 building.threshold

/-! ### Alarm settings (R137) -/

def readAlarmSettings (body : List Byte) : Option AlarmSettings :=
  match expiryAction? (byteAt body 33), slotOrNone? (byteAt body 34), flag? (byteAt body 35) with
  | some action, some fallback, some autoArm =>
    some { levels := Table.ofFn fun z => int16At body (2 * z.val), code := natAt body 32, action, fallback,
           autoArm }
  | _, _, _ => none

/-- R137: alarm levels and the supervision time code at their limits. -/
def AlarmSettings.limit (x : AlarmSettings) : AlarmSettings :=
  { x with levels := x.levels.mapIdx fun _ v => limitInt (-300) 120 v, code := limitNat 0 31 x.code }

/-- Table 10-9: the alarm settings record. -/
def AlarmSettings.bytes (x : AlarmSettings) : List Byte :=
  x.levels.rows.flatMap word16 ++ byteOf x.code ++ expiryActionByte x.action ++ slotByte x.fallback
    ++ flagByte x.autoArm

/-! ### The checks every request makes first (R156, R157) -/

/-- R156: a body whose length does not fit the kind is refused with BAD-LENGTH. -/
def State.fitting (s : State) (fits : Bool) (answer : Answer) : Answer :=
  if fits then answer else s.refuse .badLength

/-- R157, step 2: a target out of range is refused with BAD-TARGET. -/
def State.withTarget {α : Type} (s : State) (target : Option α) (answer : α → Answer) : Answer :=
  match target with
  | none => s.refuse .badTarget
  | some t => answer t

/-- R157, step 3: a value outside its set is refused with BAD-VALUE. -/
def State.withValue {α : Type} (s : State) (value : Option α) (answer : α → Answer) : Answer :=
  match value with
  | none => s.refuse .badValue
  | some v => answer v

/-- A body of one fixed length. -/
def lengthIs (body : List Byte) (n : Nat) : Bool := decide (body.length = n)

/-- A request with no arguments (Table 10-9, empty body). -/
def State.noArguments (s : State) (body : List Byte) (answer : Answer) : Answer :=
  s.fitting (lengthIs body 0) answer

end Sys2Proof.Machine
end

