-- ==== Sys2Proof/Machine/Panels.lean ====
section
/-! DEFINITION. The Panel Decoder (chapter 6): line filters (R105, R106), quadrature decoding (R107, R108),
detents (R109, R110), pushes (R112), the notice threshold (R111) and zone trims (R113). -/

namespace Sys2Proof.Machine

/-! ### Line filters (R105, R106) -/

/-- R105, R106: a filter after one reading at a filter count. -/
def LineFilter.sample (f : LineFilter) (count : Nat) (level : Bool) : LineFilter :=
  match f.accepted with
  | some accepted =>
    if level = accepted then { f with run := 0, last := some level }
    else if count ≤ f.run + 1 then ⟨some level, 0, some level⟩
    else { f with run := f.run + 1, last := some level }
  | none =>
    let run := if f.last = some level then f.run + 1 else 1
    if count ≤ run then ⟨some level, 0, some level⟩ else ⟨none, run, some level⟩

/-- Whether a sample accepted a level: the first one (R106) or a change (R105). -/
def LineFilter.acceptedNow (before after : LineFilter) : Bool := before.accepted != after.accepted

/-! ### Decoding (R107 to R109) -/

/-- What a decode gives (Table 6-2). -/
inductive Decoded where
  | edge (step : Int)
  | illegal
  | nothing
deriving DecidableEq, Repr

/-- Table 6-2: the edge from a reference state to a new pair, high as true. -/
def decodePair : Bool × Bool → Bool × Bool → Decoded
  | (false, false), (true, false) => .edge 1
  | (true, false), (true, true) => .edge 1
  | (true, true), (false, true) => .edge 1
  | (false, true), (false, false) => .edge 1
  | (false, false), (false, true) => .edge (-1)
  | (false, true), (true, true) => .edge (-1)
  | (true, true), (true, false) => .edge (-1)
  | (true, false), (false, false) => .edge (-1)
  | (false, false), (true, true) => .illegal
  | (true, true), (false, false) => .illegal
  | (false, true), (true, false) => .illegal
  | (true, false), (false, true) => .illegal
  | _, _ => .nothing

/-- A detent: clockwise, or anticlockwise. -/
inductive Detent where
  | clockwise
  | anticlockwise
deriving DecidableEq, Repr

/-- R109: an edge added to the accumulator, and the detent it produces. -/
def Panel.addEdge (p : Panel) (step : Int) : Panel × Option Detent :=
  let sum := p.accumulator + step
  if (p.building.edges : Int) ≤ sum then
    ({ p with accumulator := 0, direction := .clockwise }, some .clockwise)
  else if sum ≤ -(p.building.edges : Int) then
    ({ p with accumulator := 0, direction := .anticlockwise }, some .anticlockwise)
  else ({ p with accumulator := sum }, none)

/-- R110, R112: the zone a panel acts on: its target zone, if it is enabled. -/
def Panel.actsOn (p : Panel) : Option (Fin 16) := if p.scene.enabled then p.scene.zone else none

/-- The number of a panel's target zone, 0 when unassigned (R108). -/
def Panel.zoneNumber (p : Panel) : Nat :=
  match p.scene.zone with
  | none => 0
  | some z => z.val + 1

/-- R108: an illegal transition at a panel. -/
def State.illegalTransition (s : State) (n : Fin 8) : State :=
  let p := s.panel n
  let s' := s.setPanel n { p with illegal := min 255 (p.illegal + 1), fault := true }
  if p.fault then s' else s'.raise .panelFault (n.val + 1) p.zoneNumber

/-! ### Trims (R110 to R113) -/

/-- A trim within a zone's limits (R110, R113). -/
def ZoneScene.limitTrim (z : ZoneScene) (trim : Int) : Int := limitInt z.trimMin z.trimMax trim

/-- R111: PANEL-LEVEL when a panel takes its zone's trim up through the panel's threshold. -/
def State.raisePanelLevel (s : State) (n : Fin 8) (old new : Int) : State :=
  if old < (s.panel n).building.threshold ∧ (s.panel n).building.threshold ≤ new then
    s.raise .panelLevel (n.val + 1) new
  else s

/-- R110 to R112: a panel sets a zone's trim. If it has changed, the zone's gain targets are composed afresh
and the threshold test is made. -/
def State.panelTrim (s : State) (n : Fin 8) (z : Fin 16) (new : Int) : State :=
  let old := (s.zone z).trim
  if new = old then s
  else ((s.setZone z { s.zone z with trim := new }).recompose (ofZone z)).raisePanelLevel n old new

/-- The trim a detent asks for (R110). -/
def Panel.asked (p : Panel) (detent : Detent) (trim : Int) : Int :=
  match detent with
  | .clockwise => trim + p.building.step
  | .anticlockwise => trim - p.building.step

/-- R110: a detent of a panel. -/
def State.takeDetent (s : State) (n : Fin 8) (detent : Detent) : State :=
  match (s.panel n).actsOn with
  | none => s
  | some z =>
    let asked := (s.panel n).asked detent (s.zone z).trim
    let new := (s.zone z).scene.limitTrim asked
    let s := if new = asked then s else s.setPanel n { s.panel n with atLimit := true }
    s.panelTrim n z new

/-- R112: a push on a panel. -/
def State.takePush (s : State) (n : Fin 8) : State :=
  match (s.panel n).actsOn with
  | none => s
  | some z =>
    (s.setPanel n { s.panel n with accumulator := 0, atLimit := false }).panelTrim n z (s.zone z).scene.trimDefault

/-! ### One panel sample (R107) -/

/-- R107, stage 3: an edge acts on the accumulator, and stage 4: its detent on the zone's trim. -/
def State.takeEdge (s : State) (n : Fin 8) (step : Int) : State :=
  let r := (s.panel n).addEdge step
  match r.2 with
  | none => s.setPanel n r.1
  | some detent => (s.setPanel n r.1).takeDetent n detent

/-- R106, R107, stage 2: the pair is decoded against the reference state, which then takes the new pair. -/
def State.decodeLines (s : State) (n : Fin 8) : State :=
  let p := s.panel n
  match p.lineA.accepted, p.lineB.accepted with
  | some levelA, some levelB =>
    let s' := s.setPanel n { p with reference := some (levelA, levelB) }
    match p.reference with
    | none => s'
    | some r =>
      match decodePair r (levelA, levelB) with
      | .edge step => s'.takeEdge n step
      | .illegal => s'.illegalTransition n
      | .nothing => s'
  | _, _ => s

/-- R107: one sample of a panel's three lines, in its five stages. -/
def State.panelSample (s : State) (n : Fin 8) (levelA levelB levelZ : Bool) : State :=
  let p := s.panel n
  let count := p.building.filterCount
  let lineA := p.lineA.sample count levelA
  let lineB := p.lineB.sample count levelB
  let lineZ := p.lineZ.sample count levelZ
  let filtered := s.setPanel n { p with lineA, lineB, lineZ }
  let decoded :=
    if p.lineA.acceptedNow lineA || p.lineB.acceptedNow lineB then filtered.decodeLines n else filtered
  if p.lineZ.accepted = some true ∧ lineZ.accepted = some false then decoded.takePush n else decoded

end Sys2Proof.Machine
end

