-- ==== Sys2Proof/Machine/Scenes.lean ====
section
/-! DEFINITION. Scenes and start-up (chapter 7): the live setup as a scene (R119), a recall in its ten stages
(R121) and the start-up (R135). -/

namespace Sys2Proof.Machine

/-! ### The live setup and the live geometry (R119) -/

/-- R119: the live setup as a scene, with a label. -/
def State.liveSetup (s : State) (label : List Byte) : Scene :=
  { label
    inputs := s.inputs.mapIdx fun _ x => x.settings
    zones := s.zones.mapIdx fun _ z => z.scene
    sends := s.crosspoints.mapIdx fun _ p => p.send
    areas := s.areas.mapIdx fun _ u => u.settings
    joins := s.areas.mapIdx fun _ u => u.joinedInto
    panels := s.panels.mapIdx fun _ p => p.scene }

/-- R119, R128: the live geometry with a start-up scene, as the building record holds them. -/
def State.liveGeometry (s : State) (startupScene : Option (Fin 64)) : Building :=
  { stations := s.stations
    zones := s.zones.mapIdx fun _ z => z.geometry
    panels := s.panels.mapIdx fun _ p => p.building
    startupScene
    defaultTemp := s.defaultTemp
    climateStep := s.climateStep }

/-! ### The stages of a recall (R121) -/

/-- R120: how a recall is caused. Its number is the value of SCENE-RECALLED. -/
inductive RecallCause where
  | request
  | fallback
  | startup
deriving DecidableEq, Repr

/-- R121: the value of SCENE-RECALLED. -/
def recallCode : RecallCause → Nat
  | .request => 1
  | .fallback => 2
  | .startup => 3

/-- R25, R121 stage 1: whether new settings take an input out of its list: it is GATED and the new mode is
not, or its area differs. -/
def withdraws (old new : InputSettings) : Bool :=
  (old.mode == .gated && new.mode != .gated) || old.area != new.area

/-- R25, R121 stage 1: an input leaves any list it is an entry of with reason WITHDRAWN, and becomes CLOSED
with its QUALIFYING count cleared. -/
def State.withdraw (s : State) (i : Fin 24) : State :=
  match s.inputArea i with
  | none => s.closeGate i
  | some area => if s.isEntry i then s.dropEntry area .withdrawn i else s.closeGate i

/-- R121, stage 1, at one input. -/
def State.withdrawFor (scene : Scene) (s : State) (i : Fin 24) : State :=
  if withdraws (s.input i).settings (scene.inputs.get i) then s.withdraw i else s

/-- R121, stage 2: an entry takes its input's new priority. -/
def Scene.reprioritise (scene : Scene) (e : Entry) : Entry :=
  { e with priority := (scene.inputs.get e.input).priority }

/-- R115, R121 stage 2: a panel takes new scene fields; a change clears its accumulator. -/
def Panel.takeScene (p : Panel) (scene : PanelScene) : Panel :=
  { p with scene, accumulator := if scene = p.scene then p.accumulator else 0 }

/-- R121, stage 2: the input settings, zone scene fields, sends and panel scene fields. -/
def State.putFields (s : State) (scene : Scene) : State :=
  { s with
    inputs := s.inputs.mapIdx fun i x => { x with settings := scene.inputs.get i }
    zones := s.zones.mapIdx fun z x => { x with scene := scene.zones.get z }
    crosspoints := s.crosspoints.mapIdx fun x p => { p with send := scene.sends.get x }
    areas := s.areas.mapIdx fun _ u => { u with list := u.list.map scene.reprioritise }
    panels := s.panels.mapIdx fun n p => p.takeScene (scene.panels.get n) }

/-- R121, stage 3: the area settings. -/
def State.putAreas (s : State) (scene : Scene) : State :=
  { s with areas := s.areas.mapIdx fun k u => { u with settings := scene.areas.get k } }

/-- R121, stage 5, at one area: the consequences of R47 and R48 against the settings held before. -/
def State.areaConsequence (before : Area → AreaSettings) (s : State) (area : Area) : State :=
  if s.inUse area then s.applySettings area (before area) else s

/-- R113, R121 stage 6: the trims. -/
def State.putTrims (s : State) (keepTrims : Bool) : State :=
  { s with zones := s.zones.mapIdx fun _ z =>
      { z with trim := if keepTrims then z.scene.limitTrim z.trim else z.scene.trimDefault } }

/-- R121, stages 7 and 8: every delay target, gate-gain target, live flag and gain target. No reversal is counted
(R42, R122, log 24). -/
def State.reckon (s : State) : State :=
  (s.retime everyCrosspoint).retargetStanding.reevaluate everyCrosspoint

/-- R121, stages 1 to 5: the scene's fields in force and the lists as they leave them, with the NOM
attenuation of every area. What the attenuation does to gain targets is composed in stage 8. -/
def State.putScene (s : State) (scene : Scene) : State :=
  let before := fun area => (s.area area).settings
  let withdrawn := (List.finRange 24).foldl (State.withdrawFor scene) s
  let put := (withdrawn.putFields scene).putAreas scene
  let mapped := put.changeMap fun area => scene.joins.get (areaIndex area)
  allAreas.foldl State.setNom (allAreas.foldl (State.areaConsequence before) mapped)

/-- The recall modes (R120). -/
inductive RecallMode where
  | smooth
  | snap
deriving DecidableEq, Repr

/-- R121: an accepted recall of a scene from a slot, as one event. -/
def State.recall (s : State) (slot : Fin 64) (scene : Scene) (mode : RecallMode) (keepTrims : Bool)
    (cause : RecallCause) : State :=
  let put := ((s.putScene scene).putTrims keepTrims).reckon
  let snapped := match mode with | .smooth => put | .snap => put.snapAll
  snapped.raise .sceneRecalled slot.val (recallCode cause)

/-! ### Start-up (R135) -/

/-- R132: RECORD-INCOMPLETE for a record found INCOMPLETE. -/
def State.raiseIncomplete {α : Type} (s : State) (record : Stored α) (subject : Nat) : State :=
  match record with
  | .valid _ => s
  | .incomplete => s.raise .recordIncomplete subject 0

/-- A record's contents, or those that stand in for an INCOMPLETE one (R132). -/
def Stored.getD {α : Type} (record : Stored α) (standIn : α) : α :=
  match record with
  | .valid contents => contents
  | .incomplete => standIn

/-- R10, R11, R114: the live geometry loaded from building contents. -/
def State.loadGeometry (s : State) (b : Building) : State :=
  { s with
    stations := b.stations
    zones := s.zones.mapIdx fun z x => { x with geometry := b.zones.get z }
    panels := s.panels.mapIdx fun n p => { p with building := b.panels.get n }
    reported := none
    used := b.defaultTemp
    defaultTemp := b.defaultTemp
    climateStep := b.climateStep }

/-- R136, R150: the alarm settings loaded, with their levels in effect from the start. -/
def State.loadAlarm (s : State) (settings : AlarmSettings) : State :=
  { s with
    alarm := { AlarmUnit.initial with settings }
    zones := s.zones.mapIdx fun z x => { x with levelInEffect := settings.levels.get z } }

/-- R132: the guard that stands in for an INCOMPLETE guard record. -/
def Guard.standIn : Guard := ⟨.full, false⟩

/-- R135, stages 1 and 2. -/
def State.loadStores (s : State) : State :=
  let noticed :=
    ((s.raiseIncomplete s.store.building 64).raiseIncomplete s.store.alarm 65).raiseIncomplete s.store.guard 66
  { ((noticed.loadGeometry (s.store.building.getD Building.factory)).loadAlarm
      (s.store.alarm.getD AlarmSettings.factory)) with
    guard := s.store.guard.getD Guard.standIn }

/-- R135, stage 3: the start-up scene and its slot, where the building record and that slot are VALID. -/
def Store.startupRecall (store : Store) : Option (Fin 64 × Scene) :=
  match store.building with
  | .incomplete => none
  | .valid b =>
    match b.startupScene with
    | none => none
    | some k =>
      match store.slots.get k with
      | .valid scene => some (k, scene)
      | _ => none

/-- R135, stages 3 to 5: the live setup, the plan's delays snapped, and STARTUP. -/
def State.startSetup (s : State) : State :=
  match s.store.startupRecall with
  | some (k, scene) =>
    ((s.recall k scene .smooth false .startup).snapAll).raise .startup 0 k.val
  | none => (((s.putTrims false).reckon).snapAll).raise .startup 0 (-1)

/-- R135: the start-up, from the stored contents alone. A store operation that was in flight has left its
target INCOMPLETE (R131). -/
def State.startUp (s : State) : State :=
  ((State.cold s.store s.pending true).loadStores).startSetup

end Sys2Proof.Machine
end

