-- ==== Sys2Proof/Machine/Alarm.lean ====
section
/-! DEFINITION. The Alarm Override Unit (chapter 8): changes of the alarm state (R141, R142), the expiry
(R144, R145), the auto-arm decision (R139) and the override (R147, R149). -/

namespace Sys2Proof.Machine

/-! ### The override (R147, R149) -/

/-- Every zone's selector set to one source. -/
def State.setSelectors (s : State) (source : ZoneSource) : State :=
  { s with zones := s.zones.mapIdx fun _ z => { z with selector := source } }

/-- The override cause written. -/
def State.setCause (s : State) (cause : OverrideCause) : State :=
  { s with alarm := { s.alarm with cause } }

/-- R147: the override cause becomes ALARM or EXPIRY. Where it leaves NONE the override starts and every
selector is set to the alarm source. OVERRIDE is raised with the cause's code. -/
def State.takeOverride (s : State) (cause : OverrideCause) : State :=
  let held := if s.alarm.cause = .noCause then s.setSelectors .alarmSource else s
  (held.setCause cause).raise .override 0 (overrideCode cause)

/-- R149: the override ends: the floor reset, the selectors, OVERRIDE with value 0. -/
def State.endOverride (s : State) : State :=
  ((s.setCause .noCause).floorReset.setSelectors .crosspointSum).raise .override 0 0

/-! ### Expiry and the fault state (R144, R145) -/

/-- R141: the alarm state changes, and ALARM-STATE is raised. -/
def State.enterAlarmState (s : State) (state : AlarmState) : State :=
  { s with alarm := { s.alarm with state } }.raise .alarmState 0 (alarmStateCode state)

/-- R143 to R145: the state becomes FAULT with a cause and an action taken; the timer stops; ALARM-STATE and
SUPERVISION-FAULT are raised. -/
def State.enterFault (s : State) (cause : FaultCause) (action : ActionTaken) : State :=
  { s with alarm := { s.alarm with timer := none, faultCause := some cause, actionTaken := some action } }
    |>.enterAlarmState .fault
    |>.raise .supervisionFault 0 (faultCauseCode cause * 256 + actionCode action : Nat)

/-- Table 8-4: the fallback scene and its slot, if the slot is VALID. -/
def State.fallbackScene (s : State) : Option (Fin 64 × Scene) :=
  match s.alarm.settings.fallback with
  | none => none
  | some k =>
    match s.slot k with
    | .valid scene => some (k, scene)
    | _ => none

/-- R144: a supervision period that runs out. -/
def State.expireSupervision (s : State) : State :=
  match s.alarm.settings.action with
  | .report => s.enterFault .expiry .report
  | .alert => (s.enterFault .expiry .alert).takeOverride .expiry
  | .fallback =>
    match s.fallbackScene with
    | none => s.enterFault .expiry .fallbackNotMade
    | some (k, scene) => (s.enterFault .expiry .fallbackMade).recall k scene .smooth false .fallback

/-- R142: the supervision timer at the full duration, with a phase expected. -/
def State.loadTimer (s : State) (phase : Nat) : State :=
  { s with alarm := { s.alarm with timer := some ⟨timeCodeMs s.alarm.settings.code, phase⟩ } }

/-- R142: an entry to ARMED; a duration of 0 expires in the same event. -/
def State.enterArmed (s : State) : State :=
  let armed := (s.loadTimer 1).enterAlarmState .armed
  if timeCodeMs s.alarm.settings.code = 0 then armed.expireSupervision else armed

/-- R139: the auto-arm decision. -/
def State.decideAutoArm (s : State) : State :=
  if s.alarm.settings.autoArm && s.keyLocked && decide (s.alarm.state = .disarmed) then s.enterArmed else s

/-- Whether the store operation in flight is an ALCF. -/
def State.alcfInFlight (s : State) : Bool :=
  match s.operation with
  | some (.alcf _) => true
  | _ => false

/-- R139: the auto-arm decision at the key switch's first acceptance; with an ALCF in flight it waits for the
completion. -/
def State.firstKeyAcceptance (s : State) : State :=
  if s.alcfInFlight then { s with alarm := { s.alarm with autoArmDeferred := true } } else s.decideAutoArm

/-- R142: a supervision tick. -/
def State.supervisionTick (s : State) : State :=
  match s.alarm.state, s.alarm.timer with
  | .armed, some t =>
    let ticked := { s with alarm := { s.alarm with timer := some { t with remaining := t.remaining - 1 } } }
    if t.remaining - 1 = 0 then ticked.expireSupervision else ticked
  | _, _ => s

/-- R144: whether a supervision period has run out: ARMED with no time remaining. -/
def State.supervisionOver (s : State) : Bool :=
  decide (s.alarm.state = .armed) && s.alarm.timer.any fun t => decide (t.remaining = 0)

end Sys2Proof.Machine
end

