-- ==== Sys2Proof/Machine/StoreOps.lean ====
section
/-! DEFINITION. Store operations (section 7.3): the protected range (R125), the common checks and the
acceptance (R123), and the completion (R131, R137). -/

namespace Sys2Proof.Machine

/-- R125, Table 7-3: the scene slots a protection level protects. -/
def slotProtected (level : Protection) (k : Fin 64) : Bool :=
  match level with
  | .unprotected => false
  | .quarter => decide (48 ≤ k.val)
  | .half => decide (32 ≤ k.val)
  | .full => true

/-- R125: whether the target of a store operation lies in the protected range of a level. The guard record
is in no range. -/
def StoreOp.protected_ (op : StoreOp) (level : Protection) : Bool :=
  match op with
  | .scst k _ => slotProtected level k
  | .scer k => slotProtected level k
  | .bldw _ => decide (level = .full)
  | .alcf _ => decide (level = .full)
  | .prot _ => false

/-- The stored contents with the target of an operation INCOMPLETE (R123). -/
def Store.begin (store : Store) : StoreOp → Store
  | .scst k _ => { store with slots := store.slots.set k .incomplete }
  | .scer k => { store with slots := store.slots.set k .incomplete }
  | .bldw _ => { store with building := .incomplete }
  | .alcf _ => { store with alarm := .incomplete }
  | .prot _ => { store with guard := .incomplete }

/-- The stored contents once an operation has completed (R131, step 1). -/
def Store.complete (store : Store) : StoreOp → Store
  | .scst k scene => { store with slots := store.slots.set k (.valid scene) }
  | .scer k => { store with slots := store.slots.set k .empty }
  | .bldw contents => { store with building := .valid contents }
  | .alcf contents => { store with alarm := .valid contents }
  | .prot contents => { store with guard := .valid contents }

/-- R123: an accepted operation: the latch clears, the operation is in flight and its target INCOMPLETE. -/
def State.acceptStore (s : State) (op : StoreOp) : State :=
  { s with latch := false, operation := some op, store := s.store.begin op }

/-- R123, steps 4 and 5: whether the alarm state (for ALCF) or the key switch (for PROT) does not allow an
operation. -/
def State.storeLocked (s : State) (op : StoreOp) : Bool :=
  match op with
  | .alcf _ => decide (s.alarm.state ≠ .disarmed)
  | .prot _ => s.guard.lock && s.keyLocked
  | _ => false

/-- R123: a store request whose arguments have passed is settled by the Scene Store's state. -/
def State.storeRequest (s : State) (op : StoreOp) (clamped : Bool) : Answer :=
  if s.operation.isSome then s.refuse .busy
  else if !s.latch then s.refuse .latchClear
  else if op.protected_ s.guard.level then ⟨{ s with latch := false }, .protected_, []⟩
  else if s.storeLocked op then s.refuse .locked
  else ⟨s.acceptStore op, if clamped then .clamped else .started, []⟩

/-- R131, steps 1 to 3, and R137: the target, the live guard or the live alarm settings take the values
written, and no operation is in flight. -/
def State.finishOperation (s : State) (op : StoreOp) : State :=
  let done := { s with store := s.store.complete op, operation := none }
  match op with
  | .prot contents => { done with guard := contents }
  | .alcf contents => { done with alarm := { done.alarm with settings := contents } }
  | _ => done

/-- R139: the auto-arm decision that waited for the completion of an ALCF. -/
def State.takeDeferredDecision (s : State) : State :=
  if s.alarm.autoArmDeferred then
    { s with alarm := { s.alarm with autoArmDeferred := false } }.decideAutoArm
  else s

/-- R131: the completion of the store operation in flight, with STORE-DONE. A deferred auto-arm decision is
taken before STORE-DONE is raised, since ALARM-STATE comes before any other notice of its event (R141, log
10). With no operation in flight there is no completion (log 6). -/
def State.completeStore (s : State) : State :=
  match s.operation with
  | none => s
  | some op =>
    let finished := s.finishOperation op
    let decided := match op with | .alcf _ => finished.takeDeferredDecision | _ => finished
    decided.raise .storeDone (operationTarget op) (operationCode op)

end Sys2Proof.Machine
end

