-- ==== Sys2Proof/Machine/Events.lean ====
section
/-! DEFINITION. The events that are no requests: frames and ticks, samples of the panels and the key switch,
the completion of a store operation, power and restart. An event that is not due changes nothing (log 6). -/

namespace Sys2Proof.Machine

/-- R30: INPUT_FRAME. -/
def execInputFrame (i : Fin 24) (samples : List Int) (s : State) : Host.Outcome State Fault Refusal :=
  s.whenPowered fun s => s.inputFrame i samples

/-- R54: HOLD_TICK. -/
def execHoldTick (area : Area) (s : State) : Host.Outcome State Fault Refusal :=
  s.whenPowered fun s => s.holdTick area

/-- R55: HOLD_EXPIRY of an input's entry whose hold has run out, with the NOM attenuation of its list. -/
def State.holdExpiry (s : State) (i : Fin 24) : State :=
  match s.inputArea i with
  | none => s
  | some area => if s.expiryDue area i then (s.expireHold area i).updateNom area else s

/-- R55: HOLD_EXPIRY. -/
def execHoldExpiry (i : Fin 24) (s : State) : Host.Outcome State Fault Refusal :=
  s.whenPowered fun s => s.holdExpiry i

/-- R78: PLAN_FRAME_STEP. -/
def execPlanFrameStep (audio : AudioFrame) (s : State) : Host.Outcome State Fault Refusal :=
  s.whenPowered fun s => s.planFrameStep audio

/-- R84: MOVE_END. -/
def execMoveEnd (x : Fin 384) (s : State) : Host.Outcome State Fault Refusal :=
  s.whenPowered fun s => s.setCrosspoint x (s.settleMove x (s.crosspoint x))

/-- R131: STORE_COMPLETION. -/
def execStoreCompletion (s : State) : Host.Outcome State Fault Refusal :=
  s.whenPowered fun s => s.completeStore

/-- R107: PANEL_SAMPLE. -/
def execPanelSample (n : Fin 8) (lineA lineB lineZ : Bool) (s : State) : Host.Outcome State Fault Refusal :=
  s.whenPowered fun s => s.panelSample n lineA lineB lineZ

/-- R117: the filter count of the key-switch line. -/
def keyFilterCount : Nat := 8

/-- R117, R139: one sample of the key-switch line. The first acceptance raises no notice and takes the
auto-arm decision; each later one raises KEY-SWITCH, 1 for LOCKED (low) and 0 for OPEN. -/
def State.keySample (s : State) (level : Bool) : State :=
  let key := s.key.sample keyFilterCount level
  let sampled := { s with key }
  if s.key.acceptedNow key then
    match s.key.accepted with
    | none => sampled.firstKeyAcceptance
    | some _ => sampled.raise .keySwitch 0 (if level then 0 else 1)
  else sampled

/-- R117: KEY_SWITCH_SAMPLE. -/
def execKeySwitchSample (level : Bool) (s : State) : Host.Outcome State Fault Refusal :=
  s.whenPowered fun s => s.keySample level

/-- R142: SUPERVISION_TICK. -/
def execSupervisionTick (s : State) : Host.Outcome State Fault Refusal :=
  s.whenPowered fun s => s.supervisionTick

/-- R144: SUPERVISION_EXPIRY of a period that has run out. -/
def execSupervisionExpiry (s : State) : Host.Outcome State Fault Refusal :=
  s.whenPowered fun s => if s.supervisionOver then s.expireSupervision else s

/-- R135: POWER_ON. -/
def execPowerOn (s : State) : Host.Outcome State Fault Refusal := .next s.startUp

/-- R164: whether the start-up of an accepted RSTA is due: its reply has been sent. -/
def State.restartDue (s : State) : Bool := s.restartAccepted && s.control.reply.isNone

/-- R164: RESTART. -/
def execRestart (s : State) : Host.Outcome State Fault Refusal :=
  s.whenPowered fun s => if s.restartDue then s.startUp else s

/-- R131: POWER_LOSS. The stored contents stay, the target of an operation in flight INCOMPLETE, and all else
is lost. -/
def execPowerLoss (s : State) : Host.Outcome State Fault Refusal := .next (State.cold s.store s.pending false)

/-- R102: a new frame: no hold tick of it has been taken yet. -/
def AreaUnit.newFrame (u : AreaUnit) : AreaUnit :=
  { u with tickTaken := false, list := u.list.map fun e => { e with ticked := false } }

/-- R137, R147, R149: a zone's selector and its alarm level take effect at a frame boundary. A plan step between an
ALOF and this boundary is a step like any other: DESIGN CHOICE (log 25). -/
def State.zoneAtBoundary (s : State) (z : Fin 16) (x : Zone) : Zone :=
  { x with selected := x.selector, levelInEffect := s.alarm.settings.levels.get z }

/-- R159: a frame boundary: the stamp goes up by 1 and wraps; the selectors and alarm levels take effect. -/
def State.frameBoundary (s : State) : State :=
  { s with
    stamp := s.stamp + 1
    inputs := s.inputs.mapIdx fun _ x => { x with frameTaken := false }
    areas := s.areas.mapIdx fun _ u => u.newFrame
    zones := s.zones.mapIdx s.zoneAtBoundary }

/-- R159: FRAME_BOUNDARY. -/
def execFrameBoundary (s : State) : Host.Outcome State Fault Refusal :=
  s.whenPowered fun s => s.frameBoundary

end Sys2Proof.Machine
end

