-- ==== Sys2Proof/Machine/AlarmRequests.lean ====
section
/-! DEFINITION. The Alarm Override Unit's requests (chapter 8): ALRD, ARM1, ARM2 on the control line; ALON,
ALOF, SUPV on the safety line. -/

namespace Sys2Proof.Machine

/-- Table 10-10: the data of ALRD. -/
def State.alrdData (s : State) : List Byte :=
  let u := s.alarm
  u.settings.bytes ++ storedStateByte s.store.alarm ++ byteOf (alarmStateCode u.state)
    ++ byteOf (overrideCode u.cause)
    ++ byteOf (match u.timer with | none => 0 | some t => t.phase)
    ++ word16 (match u.timer with | none => 0 | some t => t.remaining)
    ++ byteOf (match u.faultCause with | none => 0 | some c => faultCauseCode c)
    ++ (match u.actionTaken with | none => [0xFF] | some c => byteOf (actionCode c))

/-- R138: ALRD. -/
def State.answerAlrd (s : State) (body : List Byte) : Answer :=
  s.noArguments body ⟨s, .done, s.alrdData⟩

/-- R140, Table 8-3: ARM1 settled by the alarm state. -/
def State.armFirst (s : State) : Answer :=
  match s.alarm.state with
  | .disarmed => if s.alcfInFlight then s.refuse .busy else ⟨s.enterAlarmState .primed, .done, []⟩
  | .primed => ⟨s, .done, []⟩
  | .armed => s.refuse .locked
  | .fault => s.refuse .locked

/-- R140: ARM1. -/
def State.answerArm1 (s : State) (body : List Byte) : Answer :=
  s.noArguments body s.armFirst

/-- R140, Table 8-3: ARM2 settled by the alarm state and its enable value. -/
def State.armSecond (s : State) (enable : Bool) : Answer :=
  match s.alarm.state with
  | .disarmed => s.refuse .order
  | .primed => if enable then ⟨s.enterArmed, .done, []⟩ else ⟨s.enterAlarmState .disarmed, .done, []⟩
  | .armed => s.refuse .locked
  | .fault => s.refuse .locked

/-- R140: ARM2. -/
def State.answerArm2 (s : State) (body : List Byte) : Answer :=
  s.fitting (lengthIs body 1) <| s.withValue (flag? (byteAt body 0)) s.armSecond

/-- R146: ALON settled by the override cause. -/
def State.alarmOn (s : State) : Answer :=
  match s.alarm.cause with
  | .noCause => ⟨s.takeOverride .alarm, .done, []⟩
  | .alarm => ⟨s, .done, []⟩
  | .expiry => ⟨s, .done, []⟩

/-- R146: ALON. -/
def State.answerAlon (s : State) (body : List Byte) : Answer :=
  s.noArguments body s.alarmOn

/-- R146: ALOF settled by the override cause. -/
def State.alarmOff (s : State) : Answer :=
  match s.alarm.cause with
  | .noCause => s.refuse .order
  | .alarm => ⟨s.endOverride, .done, []⟩
  | .expiry => s.refuse .order

/-- R146: ALOF. -/
def State.answerAlof (s : State) (body : List Byte) : Answer :=
  s.noArguments body s.alarmOff

/-- R143: the expected phase becomes 2, and the time remaining is unchanged. -/
def State.expectSecond (s : State) (t : Timer) : State :=
  { s with alarm := { s.alarm with timer := some { t with phase := 2 } } }

/-- R143: a supervision message settled by the alarm state and the expected phase. -/
def State.supervise (s : State) (phase : Nat) : Answer :=
  match s.alarm.state, s.alarm.timer with
  | .armed, some t =>
    if t.phase = 1 ∧ phase = 1 then ⟨s.expectSecond t, .done, []⟩
    else if t.phase = 2 ∧ phase = 2 then ⟨s.loadTimer 1, .done, []⟩
    else ⟨s.enterFault .outOfSequence .noAction, .order, []⟩
  | .armed, none => ⟨s.enterFault .outOfSequence .noAction, .order, []⟩
  | _, _ => s.refuse .order

/-- R143: SUPV. -/
def State.answerSupv (s : State) (body : List Byte) : Answer :=
  s.fitting (lengthIs body 1) (s.supervise (natAt body 0))

end Sys2Proof.Machine
end

