-- ==== Sys2Proof/Machine/GeometryRequests.lean ====
section
/-! DEFINITION. The Geometry Unit's requests (chapter 1): ZNGEO, STSET, STGET, CLIM. -/

namespace Sys2Proof.Machine

/-- R20: the crosspoints of the inputs whose live station setting names a station. -/
def State.ofStation (s : State) (n : Fin 32) (x : Fin 384) : Bool :=
  (s.input (inputOf x)).settings.station == some n

/-- R5: whether a station's defined flag or a coordinate differs. -/
def Station.moved (old new : Station) : Bool := decide (old.defined ≠ new.defined ∨ old.point ≠ new.point)

/-- R5: an accepted STSET. -/
def State.changeStation (s : State) (n : Fin 32) (new : Station) : State :=
  let put := { s with stations := s.stations.set n new }
  if (s.station n).moved new then put.retime (put.ofStation n) else put

/-- R5: STSET. -/
def State.answerStset (s : State) (body : List Byte) : Answer :=
  s.fitting (labelFits body 8 12) <|
    s.withTarget (oneBased? 32 (byteAt body 0)) fun n =>
      s.withValue (readStation body 1) fun x =>
        ⟨s.changeStation n x.limit, doneOrClamped (decide (x.limit ≠ x)), []⟩

/-- R6: the inputs whose live station setting names a station, in ascending order. -/
def State.assigned (s : State) (n : Fin 32) : List (Fin 24) :=
  (List.finRange 24).filter fun i => (s.input i).settings.station == some n

/-- R6: how many of the crosspoints of a station's inputs have their clamp flag set. -/
def State.clampedCount (s : State) (n : Fin 32) : Nat :=
  (List.finRange 384).countP fun x => s.ofStation n x && (s.crosspoint x).clamp

/-- Table 10-10: the data of STGET. -/
def State.stgetData (s : State) (n : Fin 32) : List Byte :=
  flagByte (s.station n).defined ++ (s.station n).point.bytes ++ word16 (s.clampedCount n)
    ++ byteOf (s.assigned n).length ++ (s.assigned n).flatMap (fun i => byteOf (i.val + 1))
    ++ labelBytes (s.station n).label

/-- R6: STGET. -/
def State.answerStget (s : State) (body : List Byte) : Answer :=
  s.fitting (lengthIs body 1) <|
    s.withTarget (oneBased? 32 (byteAt body 0)) fun n => ⟨s, .done, s.stgetData n⟩

/-- R8: whether L, P, the precedence offset or the extra delay differs. -/
def ZoneGeometry.moved (old new : ZoneGeometry) : Bool :=
  decide (old.speaker ≠ new.speaker ∨ old.listener ≠ new.listener ∨ old.precedence ≠ new.precedence
    ∨ old.extra ≠ new.extra)

/-- R8, R9: an accepted ZNGEO. The new move time and slew are in force before any recomputed target. -/
def State.changeZoneGeometry (s : State) (z : Fin 16) (new : ZoneGeometry) : State :=
  let put := s.setZone z { s.zone z with geometry := new }
  if (s.zone z).geometry.moved new then put.retime (ofZone z) else put

/-- R8: ZNGEO. -/
def State.answerZngeo (s : State) (body : List Byte) : Answer :=
  s.fitting (labelFits body 19 12) <|
    s.withTarget (oneBased? 16 (byteAt body 0)) fun z =>
      s.withValue (readZoneGeometry body 1) fun x =>
        ⟨s.changeZoneGeometry z x.limit, doneOrClamped (decide (x.limit ≠ x)), []⟩

/-- R13: whether a report is a climate shift. -/
def State.isClimateShift (s : State) (report : Int) : Bool := decide (s.climateStep ≤ (report - s.used).natAbs)

/-- R13: a reported temperature, after clamping. -/
def State.takeReport (s : State) (report : Int) : State :=
  if s.isClimateShift report then
    ({ s with reported := some report, used := report }.raise .climateStep 0 report).retime everyCrosspoint
  else { s with reported := some report }

/-- R12: the settings part of a CLIM. -/
def State.takeClimateSettings (s : State) (defaultTemp : Int) (climateStep : Nat) : State :=
  { s with defaultTemp, climateStep }

/-- R12: an accepted CLIM: the settings part first, then the report. -/
def State.takeClimate (s : State) (parts : ClimateParts) : State :=
  let s := match parts.settings with
    | none => s
    | some p => s.takeClimateSettings p.1 p.2
  match parts.report with
  | none => s
  | some report => s.takeReport report

/-- R12: CLIM. -/
def State.answerClim (s : State) (body : List Byte) : Answer :=
  s.fitting (lengthIs body 6) <|
    s.withValue (readClimate body) fun parts =>
      ⟨s.takeClimate parts.limit, doneOrClamped (decide (parts.limit ≠ parts)), []⟩

end Sys2Proof.Machine
end

