-- ==== Sys2Proof/Machine/InputRequests.lean ====
section
/-! DEFINITION. The Input Channels' requests (chapter 2): INSET and INGET. -/

namespace Sys2Proof.Machine

/-- R25, step 1: the removal that a change of settings asks for, with the NOM attenuation of the list the
input was in. -/
def State.putInputSettings (s : State) (i : Fin 24) (new : InputSettings) : State :=
  if withdraws (s.input i).settings new then
    let withdrawn := s.withdraw i
    let put := withdrawn.setInput i { withdrawn.input i with settings := new }
    match s.inputArea i with
    | none => put
    | some area => put.updateNom area
  else s.setInput i { s.input i with settings := new }

/-- R25, step 2: an input that is an entry gives it its new priority. -/
def State.putPriority (s : State) (i : Fin 24) : State :=
  match s.inputArea i with
  | none => s
  | some area => s.updateEntry area i fun e => { e with priority := (s.input i).settings.priority }

/-- R25, R68, R77: an accepted INSET: the settings, then removal, priority, station and gate-gain target in
this order, and the live flags and gain targets of the input's crosspoints where its mode or area changed. -/
def State.changeInput (s : State) (i : Fin 24) (new : InputSettings) : State :=
  let old := (s.input i).settings
  if new = old then s
  else
    let s := s.putInputSettings i new
    let s := if new.priority = old.priority then s else s.putPriority i
    let s := if new.station = old.station then s else s.retime (ofInput i)
    let s := s.retarget (onlyInput i)
    if new.mode = old.mode ∧ new.area = old.area then s else s.reevaluate (ofInput i)

/-- R24: INSET. -/
def State.answerInset (s : State) (body : List Byte) : Answer :=
  s.fitting (lengthIs body 14) <|
    s.withTarget (oneBased? 24 (byteAt body 0)) fun i =>
      s.withValue (readInputSettings body 1) fun x =>
        ⟨s.changeInput i x.limit, doneOrClamped (decide (x.limit ≠ x)), []⟩

/-- R38: the ramp direction's code (Table 10-11). -/
def Input.rampByte (x : Input) : List Byte :=
  if x.gain < x.target then [1] else if x.target < x.gain then [2] else [0]

/-- R26: the QUALIFYING count reported, 0 in every state but QUALIFYING. -/
def Input.reportedCount (x : Input) : Nat := if x.gate = .qualifying then x.qualifying else 0

/-- Table 10-10: the data of INGET. -/
def State.ingetData (s : State) (i : Fin 24) : List Byte :=
  let x := s.input i
  x.settings.bytes ++ areaByte (s.inputArea i) ++ word16 x.level ++ word16 x.noiseFloor ++ byteOf x.rise
    ++ word16 x.openThreshold ++ word16 x.closeThreshold ++ gateStateByte x.gate ++ byteOf x.reportedCount
    ++ word16 x.gain ++ word16 x.target ++ x.rampByte ++ byteOf x.reversals

/-- R26: INGET reports an input and clears its reversal count. -/
def State.answerInget (s : State) (body : List Byte) : Answer :=
  s.fitting (lengthIs body 1) <|
    s.withTarget (oneBased? 24 (byteAt body 0)) fun i =>
      ⟨s.setInput i { s.input i with reversals := 0 }, .done, s.ingetData i⟩

end Sys2Proof.Machine
end

