-- ==== Sys2Proof/Machine/LineRequests.lean ====
section
/-! DEFINITION. The Line Interface's requests (chapter 9): STAT, NOTF, SUBS, RSTA. -/

namespace Sys2Proof.Machine

/-- R163, Table 10-10: the data of STAT. The stamp is that of the request's event, in which the reply is formed: DESIGN
CHOICE (log 26). -/
def State.statData (s : State) : List Byte :=
  [Config.firmwareMajor, Config.firmwareMinor] ++ word32 s.stamp.toNat ++ word16 s.used
    ++ flagByte s.reported.isSome ++ word16 (s.reported.getD 0)
    ++ byteOf (match s.operation with | none => 0 | some op => operationCode op)
    ++ byteOf (match s.operation with | none => 0 | some op => operationTarget op)
    ++ byteOf s.queue.length

/-- R163: STAT. -/
def State.answerStat (s : State) (body : List Byte) : Answer :=
  s.noArguments body ⟨s, .done, s.statData⟩

/-- Table 10-5: the record of a notice. -/
def Notice.bytes (n : Notice) : List Byte :=
  byteOf (noticeCode n.kind) ++ word32 n.stamp.toNat ++ word16 n.subject ++ word32 n.value

/-- R161, R170: NOTF removes up to 8 notices from the head, returns them and clears the indicator. -/
def State.fetchNotices (s : State) : Answer :=
  let taken := s.queue.take 8
  let left := s.queue.drop 8
  { state := { s with queue := left, overflow := false }
    result := .done
    data := byteOf taken.length ++ byteOf left.length ++ flagByte s.overflow ++ taken.flatMap Notice.bytes }

/-- R161: NOTF. -/
def State.answerNotf (s : State) (body : List Byte) : Answer :=
  s.noArguments body s.fetchNotices

/-- R162, R174: the set that a list of kind codes names, in ascending order of code. -/
def namedKinds (codes : List Byte) : List NoticeKind :=
  NoticeKind.all.filter fun k => codes.any fun b => noticeKind? b == some k

/-- R162: the set a SUBS carries; none where a code lies outside 01h..0Dh. -/
def readKinds (codes : List Byte) : Option (List NoticeKind) :=
  if codes.all fun b => (noticeKind? b).isSome then some (namedKinds codes) else none

/-- R162: an accepted SUBS. -/
def State.subscribe (s : State) (kinds : List NoticeKind) : Answer :=
  ⟨{ s with subscribed := kinds }, .done, kinds.flatMap fun k => byteOf (noticeCode k)⟩

/-- R162: SUBS. -/
def State.answerSubs (s : State) (body : List Byte) : Answer :=
  s.fitting (decide (body.length ≤ 13)) (s.withValue (readKinds body) s.subscribe)

/-- R164: an RSTA is checked against a store operation in flight and an ALARM override. -/
def State.askRestart (s : State) : Answer :=
  if s.operation.isSome then s.refuse .busy
  else if s.alarm.cause = .alarm then s.refuse .alert
  else ⟨{ s with restartAccepted := true }, .done, []⟩

/-- R164: RSTA. -/
def State.answerRsta (s : State) (body : List Byte) : Answer :=
  s.noArguments body s.askRestart

end Sys2Proof.Machine
end

