-- ==== Sys2Proof/Machine/ListRequests.lean ====
section
/-! DEFINITION. The requests of the Open List Unit and the Area Map (chapters 3 and 5): ARSET, OLRD, JOIN,
SPLT, PAUS, RSUM. -/

namespace Sys2Proof.Machine

/-- R46 to R48: an accepted ARSET. The settings of a joined area are stored and act on nothing. -/
def State.changeAreaSettings (s : State) (area : Area) (new : AreaSettings) : State :=
  let put := s.setArea area { s.area area with settings := new }
  if put.inUse area then
    let applied := put.applySettings area (s.area area).settings
    (applied.updateNom area).retarget (s.gatedIn area)
  else put

/-- R46: ARSET. -/
def State.answerArset (s : State) (body : List Byte) : Answer :=
  s.fitting (lengthIs body 8) <|
    s.withTarget (area? (byteAt body 0)) fun area =>
      s.withValue (readAreaSettings body 1) fun x =>
        ⟨s.changeAreaSettings area x.limit, doneOrClamped (decide (x.limit ≠ x)), []⟩

/-- Table 10-7: the record of an entry. -/
def State.entryBytes (s : State) (e : Entry) : List Byte :=
  byteOf (e.input.val + 1) ++ byteOf e.priority
    ++ byteOf ((if s.holds e then 1 else 0) + (if e.retained then 2 else 0)) ++ word32 e.stamp.toNat
    ++ word16 e.hold ++ word16 e.openingLevel ++ word16 (s.input e.input).level

/-- R63: the entries OLRD reports; none for a joined area. -/
def State.reportedEntries (s : State) (area : Area) : List Entry :=
  if s.inUse area then (s.area area).list else []

/-- Table 10-10: the data of OLRD. -/
def State.olrdData (s : State) (area : Area) : List Byte :=
  let u := s.area area
  let governing := s.area (s.leadOf area)
  let entries := s.reportedEntries area
  u.settings.bytes ++ areaByte (some (s.leadOf area)) ++ flagByte u.paused ++ flagByte governing.paused
    ++ pauseModeByte governing.settings.pauseMode ++ byteOf entries.length
    ++ word16 (if s.inUse area then u.nom else 0 : Nat) ++ entries.flatMap s.entryBytes

/-- R63: OLRD. -/
def State.answerOlrd (s : State) (body : List Byte) : Answer :=
  s.fitting (lengthIs body 1) <|
    s.withTarget (area? (byteAt body 0)) fun area => ⟨s, .done, s.olrdData area⟩

/-- R95, steps 1: the two areas of a JOIN, both in range. -/
def readAreas (body : List Byte) : Option (Area × Area) :=
  match area? (byteAt body 0), area? (byteAt body 1) with
  | some x, some y => some (x, y)
  | _, _ => none

/-- R95, steps 2 to 5: whether X may be joined into Y. -/
def State.mayJoin (s : State) (x y : Area) : Bool :=
  decide (x ≠ y) && s.inUse x && !s.leads x && s.inUse y

/-- R95: JOIN. -/
def State.answerJoin (s : State) (body : List Byte) : Answer :=
  s.fitting (lengthIs body 2) <|
    s.withTarget (readAreas body) fun pair =>
      if s.mayJoin pair.1 pair.2 then ⟨s.joinArea pair.1 pair.2, .done, []⟩ else s.refuse .order

/-- R99: SPLT. -/
def State.answerSplt (s : State) (body : List Byte) : Answer :=
  s.fitting (lengthIs body 1) <|
    s.withTarget (area? (byteAt body 0)) fun x =>
      match (s.area x).joinedInto with
      | none => s.refuse .order
      | some y => ⟨s.splitArea x y, .done, []⟩

/-- R59, R61: the pause flag of an area whose list is in use takes a value. On entering a DRAIN pause a
retained entry is removed. -/
def State.changePause (s : State) (area : Area) (paused : Bool) : State :=
  if (s.area area).paused = paused then s
  else
    let put := s.setArea area { s.area area with paused }
    let drained := if (put.area area).pausedIn .drain then (put.releaseRetained area).updateNom area else put
    drained.retarget (s.gatedIn area)

/-- R59: the checks and the effect that PAUS and RSUM share. -/
def State.pauseRequest (s : State) (body : List Byte) (paused : Bool) : Answer :=
  s.fitting (lengthIs body 1) <|
    s.withTarget (area? (byteAt body 0)) fun area =>
      if s.inUse area then ⟨s.changePause area paused, .done, []⟩ else s.refuse .order

/-- R59: PAUS. -/
def State.answerPaus (s : State) (body : List Byte) : Answer :=
  s.pauseRequest body true

/-- R59: RSUM. -/
def State.answerRsum (s : State) (body : List Byte) : Answer :=
  s.pauseRequest body false

end Sys2Proof.Machine
end

