-- ==== Sys2Proof/Machine/PanelRequests.lean ====
section
/-! DEFINITION. The Panel Decoder's requests (chapter 6): PNSET and PNGET. -/

namespace Sys2Proof.Machine

/-- R115: an accepted PNSET. A change of target zone, enabled setting or edges per detent clears the
accumulator. -/
def Panel.change (p : Panel) (scene : PanelScene) (building : PanelBuilding) : Panel :=
  { p with scene, building,
           accumulator := if scene = p.scene ∧ building.edges = p.building.edges then p.accumulator else 0 }

/-- R114: PNSET. -/
def State.answerPnset (s : State) (body : List Byte) : Answer :=
  s.fitting (lengthIs body 8) <|
    s.withTarget (oneBased? 8 (byteAt body 0)) fun n =>
      s.withValue (readPanelSettings body 1) fun x =>
        ⟨s.setPanel n ((s.panel n).change x.1 x.2.limit), doneOrClamped (decide (x.2.limit ≠ x.2)), []⟩

/-- Table 10-10: the data of PNGET. -/
def State.pngetData (s : State) (n : Fin 8) : List Byte :=
  let p := s.panel n
  panelSettingsBytes p.scene p.building ++ acceptedByte p.lineA.accepted ++ acceptedByte p.lineB.accepted
    ++ acceptedByte p.lineZ.accepted ++ byteOf p.accumulator ++ directionByte p.direction ++ flagByte p.fault
    ++ byteOf p.illegal ++ flagByte p.atLimit ++ flagByte p.scene.zone.isSome
    ++ word16 (match p.scene.zone with | none => 0 | some z => (s.zone z).trim)

/-- R116: the fault flag, the illegal count and the at-limit flag cleared. -/
def Panel.cleared (p : Panel) : Panel := { p with fault := false, illegal := 0, atLimit := false }

/-- R116: PNGET reports a panel, then clears its fault flag, illegal count and at-limit flag. -/
def State.answerPnget (s : State) (body : List Byte) : Answer :=
  s.fitting (lengthIs body 1) <|
    s.withTarget (oneBased? 8 (byteAt body 0)) fun n =>
      ⟨s.setPanel n (s.panel n).cleared, .done, s.pngetData n⟩

end Sys2Proof.Machine
end

