-- ==== Sys2Proof/Machine/PlanRequests.lean ====
section
/-! DEFINITION. The Crosspoint Plan's requests (chapter 4): ZNSET, ZNGET, SEND, XPRD, SNAP. -/

namespace Sys2Proof.Machine

/-- R74: an accepted ZNSET: the fields, the trim within the new limits, the live flags if the area changed,
and the gain targets of the zone's 24 crosspoints. -/
def State.changeZone (s : State) (z : Fin 16) (new : ZoneScene) : State :=
  let put := s.setZone z { s.zone z with scene := new, trim := limitInt new.trimMin new.trimMax (s.zone z).trim }
  let lived := if new.area = (s.zone z).scene.area then put else put.relive (ofZone z)
  lived.recompose (ofZone z)

/-- R73: ZNSET. -/
def State.answerZnset (s : State) (body : List Byte) : Answer :=
  s.fitting (lengthIs body 10) <|
    s.withTarget (oneBased? 16 (byteAt body 0)) fun z =>
      s.withValue (readZoneScene body 1) fun x =>
        ⟨s.changeZone z x.limit, doneOrClamped (decide (x.limit ≠ x)), []⟩

/-- R75: how many of a zone's 24 crosspoints pass a test. -/
def State.countInZone (s : State) (z : Fin 16) (test : Crosspoint → Bool) : Nat :=
  (List.finRange 24).countP fun i => test (s.crosspoint (crosspointOf i z))

/-- R75, Table 10-10: the data of ZNGET. What the zone's output presently carries is read as its selector as set, also
before the frame boundary at which that takes effect: DEDUCED (log 27). -/
def State.zngetData (s : State) (z : Fin 16) : List Byte :=
  let x := s.zone z
  x.scene.bytes ++ word16 x.trim ++ areaByte (s.zoneArea z)
    ++ byteOf (s.countInZone z fun p => p.live) ++ byteOf (s.countInZone z fun p => p.move.isSome)
    ++ byteOf (s.countInZone z fun p => p.pendingDelay.isSome) ++ byteOf (s.countInZone z fun p => p.clamp)
    ++ zoneSourceByte x.selector ++ x.geometry.bytes

/-- R75: ZNGET. -/
def State.answerZnget (s : State) (body : List Byte) : Answer :=
  s.fitting (lengthIs body 1) <|
    s.withTarget (oneBased? 16 (byteAt body 0)) fun z => ⟨s, .done, s.zngetData z⟩

/-- R71: the send a SEND carries for a crosspoint, if it carries one: the input's crosspoints from the first
zone on, one for each value. -/
def carriedSend (i : Fin 24) (first : Fin 16) (values : List Int) (x : Fin 384) : Option Int :=
  if inputOf x = i ∧ first ≤ zoneOf x then values[(zoneOf x).val - first.val]? else none

/-- R71: an accepted SEND: all values are written, then the crosspoints whose send changed are evaluated. -/
def State.changeSends (s : State) (i : Fin 24) (first : Fin 16) (values : List Int) : State :=
  let newSend := fun x => (carriedSend i first values x).getD (s.crosspoint x).send
  (s.updateCrosspoints everyCrosspoint fun x p => { p with send := newSend x }).reevaluate
    fun x => newSend x != (s.crosspoint x).send

/-- R71: the input and the first zone of a SEND, if both are in range and the last value falls on a zone. -/
def readSendTarget (body : List Byte) : Option (Fin 24 × Fin 16) :=
  match oneBased? 24 (byteAt body 0), oneBased? 16 (byteAt body 1) with
  | some i, some z => if z.val + (readSends body).length ≤ 16 then some (i, z) else none
  | _, _ => none

/-- R71, R174: a SEND body of 1 to 16 values. -/
def sendFits (body : List Byte) : Bool := decide (4 ≤ body.length ∧ body.length ≤ 34 ∧ body.length % 2 = 0)

/-- R71: SEND. -/
def State.answerSend (s : State) (body : List Byte) : Answer :=
  s.fitting (sendFits body) <|
    s.withTarget (readSendTarget body) fun target =>
      let values := (readSends body).map limitSend
      ⟨s.changeSends target.1 target.2 values, doneOrClamped (decide (values ≠ readSends body)), []⟩

/-- R92, Table 10-6: the record of a crosspoint. -/
def Crosspoint.bytes (p : Crosspoint) (index : Fin 384) : List Byte :=
  let flags : Int := (if p.live then 1 else 0) + (if p.move.isSome then 2 else 0)
    + (if p.pendingDelay.isSome then 4 else 0) + (if p.clamp then 8 else 0)
  word16 index.val ++ byteOf flags ++ word16 p.send ++ word16 p.targetGain ++ word16 p.activeGain
    ++ word16 p.targetDelay ++ word16 p.activeDelay
    ++ word16 (match p.move with | none => 0 | some m => m.dest)
    ++ word16 (match p.move with | none => 0 | some m => m.elapsed)
    ++ word16 (match p.move with | none => 0 | some m => m.length)
    ++ word16 (p.pendingDelay.getD 0)

/-- R92: the crosspoints of a read: a number of them from the start, index 0 after 383. -/
def readIndexes (start : Fin 384) (count : Nat) : List (Fin 384) :=
  (List.range count).map fun k => ⟨(start.val + k) % 384, by omega⟩

/-- R171: the data of XPRD. -/
def State.xprdData (s : State) (start : Fin 384) (count : Nat) : List Byte :=
  byteOf count ++ (readIndexes start count).flatMap fun x => (s.crosspoint x).bytes x

/-- R92: a crosspoint index, or none above 383. -/
def crosspointIndex? (n : Nat) : Option (Fin 384) := if h : n < 384 then some ⟨n, h⟩ else none

/-- R92: XPRD. -/
def State.answerXprd (s : State) (body : List Byte) : Answer :=
  s.fitting (lengthIs body 3) <|
    s.withTarget (crosspointIndex? (nat16At body 0)) fun start =>
      let count := limitNat 1 24 (natAt body 2)
      ⟨s, doneOrClamped (decide (count ≠ natAt body 2)), s.xprdData start count⟩

/-- R87: the crosspoints a SNAP names: those of a zone, or all. -/
def snapCovers (zone : Option (Fin 16)) (x : Fin 384) : Bool :=
  match zone with
  | none => true
  | some z => ofZone z x

/-- R87: SNAP. -/
def State.answerSnap (s : State) (body : List Byte) : Answer :=
  s.fitting (lengthIs body 1) <|
    s.withTarget (zeroOrOneBased? 16 (byteAt body 0)) fun zone =>
      ⟨s.snapToTargets (snapCovers zone), .done, []⟩

end Sys2Proof.Machine
end

