-- ==== Sys2Proof/Machine/StoreRequests.lean ====
section
/-! DEFINITION. The Scene Store's requests (chapter 7): SCRC, SCST, SCER, SCLS, BLDW, STEN, STDI, PROT, and
ALCF (R137). -/

namespace Sys2Proof.Machine

/-- R120, step 3: a store operation in flight that writes a slot. -/
def State.slotBusy (s : State) (k : Fin 64) : Bool :=
  match s.operation with
  | some (.scst j _) => j == k
  | some (.scer j) => j == k
  | _ => false

/-- Table 10-4: the recall mode. -/
def recallMode? : Byte → Option RecallMode
  | 0 => some .smooth
  | 1 => some .snap
  | _ => none

/-- R120, step 2: the mode and the keep-trims flag of an SCRC. -/
def readRecall (body : List Byte) : Option (RecallMode × Bool) :=
  match recallMode? (byteAt body 1), flag? (byteAt body 2) with
  | some mode, some keep => some (mode, keep)
  | _, _ => none

/-- R120, steps 3 to 6. -/
def State.recallSlot (s : State) (k : Fin 64) (mode : RecallMode) (keepTrims : Bool) : Answer :=
  if s.slotBusy k then s.refuse .busy
  else
    match s.slot k with
    | .empty => s.refuse .empty
    | .incomplete => s.refuse .damaged
    | .valid scene => ⟨s.recall k scene mode keepTrims .request, .done, []⟩

/-- R120: SCRC. -/
def State.answerScrc (s : State) (body : List Byte) : Answer :=
  s.fitting (lengthIs body 3) <|
    s.withTarget (slot? (byteAt body 0)) fun k =>
      s.withValue (readRecall body) fun m => s.recallSlot k m.1 m.2

/-- R126: the label of an SCST, if every character is in range. -/
def readSceneLabel (body : List Byte) : Option (List Byte) :=
  if labelOk (labelAt body 1) then some (labelAt body 1) else none

/-- R126: SCST. -/
def State.answerScst (s : State) (body : List Byte) : Answer :=
  s.fitting (labelFits body 1 16) <|
    s.withTarget (slot? (byteAt body 0)) fun k =>
      s.withValue (readSceneLabel body) fun label => s.storeRequest (.scst k (s.liveSetup label)) false

/-- R127: SCER. -/
def State.answerScer (s : State) (body : List Byte) : Answer :=
  s.fitting (lengthIs body 1) <|
    s.withTarget (slot? (byteAt body 0)) fun k => s.storeRequest (.scer k) false

/-- R134: the label of a slot as SCLS lists it. -/
def Slot.label : Slot → List Byte
  | .valid scene => scene.label
  | _ => []

/-- R134: the slots listed: a number of them from the start, slot 0 after slot 63. -/
def listedSlots (start : Fin 64) (count : Nat) : List (Fin 64) :=
  (List.range count).map fun k => ⟨(start.val + k) % 64, by omega⟩

/-- R134: the start-up scene as the building record holds it, or NONE when INCOMPLETE. -/
def Store.startupScene (store : Store) : Option (Fin 64) :=
  match store.building with
  | .valid b => b.startupScene
  | .incomplete => none

/-- Table 10-10: the data of SCLS for one slot. -/
def State.slotBytes (s : State) (k : Fin 64) : List Byte :=
  byteOf k.val ++ slotStateByte (s.slot k) ++ flagByte (slotProtected s.guard.level k) ++ labelBytes (s.slot k).label

/-- Table 10-10: the data of SCLS. -/
def State.sclsData (s : State) (start : Fin 64) (count : Nat) : List Byte :=
  byteOf count ++ storedStateByte s.store.building ++ storedStateByte s.store.alarm
    ++ storedStateByte s.store.guard ++ protectionByte s.guard.level ++ flagByte s.guard.lock
    ++ slotByte s.store.startupScene ++ (listedSlots start count).flatMap s.slotBytes

/-- R134: SCLS. -/
def State.answerScls (s : State) (body : List Byte) : Answer :=
  s.fitting (lengthIs body 2) <|
    s.withTarget (slot? (byteAt body 0)) fun start =>
      let count := limitNat 1 16 (natAt body 1)
      ⟨s, doneOrClamped (decide (count ≠ natAt body 1)), s.sclsData start count⟩

/-- R128: BLDW. -/
def State.answerBldw (s : State) (body : List Byte) : Answer :=
  s.fitting (lengthIs body 1) <|
    s.withValue (slotOrNone? (byteAt body 0)) fun startup => s.storeRequest (.bldw (s.liveGeometry startup)) false

/-- R124: STEN. -/
def State.answerSten (s : State) (body : List Byte) : Answer :=
  s.noArguments body ⟨{ s with latch := true }, .done, []⟩

/-- R124: STDI. -/
def State.answerStdi (s : State) (body : List Byte) : Answer :=
  s.noArguments body ⟨{ s with latch := false }, .done, []⟩

/-- R130: the level and the lock bit of a PROT. -/
def readGuard (body : List Byte) : Option Guard :=
  match protection? (byteAt body 0), flag? (byteAt body 1) with
  | some level, some lock => some ⟨level, lock⟩
  | _, _ => none

/-- R130: PROT. -/
def State.answerProt (s : State) (body : List Byte) : Answer :=
  s.fitting (lengthIs body 2) <| s.withValue (readGuard body) fun g => s.storeRequest (.prot g) false

/-- R137: ALCF. -/
def State.answerAlcf (s : State) (body : List Byte) : Answer :=
  s.fitting (lengthIs body 36) <|
    s.withValue (readAlarmSettings body) fun x => s.storeRequest (.alcf x.limit) (decide (x.limit ≠ x))

end Sys2Proof.Machine
end

