-- ==== Sys2Proof/Machine/Receive.lean ====
section
/-! DEFINITION. What arrives on a line (R152 to R156): bytes through its receiver, the good frame that a byte
completes, taken as the request of its kind, and whole frames. -/

namespace Sys2Proof.Machine

/-- Table 9-3, R156: how a good frame on the control line is settled. -/
def State.answerControl (s : State) (kind : Byte) (body : List Byte) : Answer :=
  match kind.toNat with
  | 0x01 => s.answerStat body
  | 0x02 => s.answerNotf body
  | 0x03 => s.answerSubs body
  | 0x08 => s.answerInset body
  | 0x09 => s.answerInget body
  | 0x0A => s.answerZnset body
  | 0x0B => s.answerZnget body
  | 0x0C => s.answerZngeo body
  | 0x10 => s.answerStset body
  | 0x11 => s.answerStget body
  | 0x12 => s.answerClim body
  | 0x18 => s.answerSend body
  | 0x19 => s.answerXprd body
  | 0x1A => s.answerSnap body
  | 0x20 => s.answerArset body
  | 0x21 => s.answerOlrd body
  | 0x22 => s.answerJoin body
  | 0x23 => s.answerSplt body
  | 0x24 => s.answerPaus body
  | 0x25 => s.answerRsum body
  | 0x28 => s.answerPnset body
  | 0x29 => s.answerPnget body
  | 0x30 => s.answerScrc body
  | 0x31 => s.answerScst body
  | 0x32 => s.answerScer body
  | 0x33 => s.answerScls body
  | 0x34 => s.answerBldw body
  | 0x35 => s.answerSten body
  | 0x36 => s.answerStdi body
  | 0x37 => s.answerProt body
  | 0x38 => s.answerAlcf body
  | 0x39 => s.answerAlrd body
  | 0x3A => s.answerArm1 body
  | 0x3B => s.answerArm2 body
  | 0x3F => s.answerRsta body
  | _ => s.refuse .unknownKind

/-- Table 9-4, R156: how a good frame on the safety line is settled. -/
def State.answerSafety (s : State) (kind : Byte) (body : List Byte) : Answer :=
  match kind.toNat with
  | 0x50 => s.answerAlon body
  | 0x51 => s.answerAlof body
  | 0x52 => s.answerSupv body
  | _ => s.refuse .unknownKind

/-- R156: how a good frame of a line is settled. -/
def State.answerTo (s : State) (line : Line) (kind : Byte) (body : List Byte) : Answer :=
  match line with
  | .control => s.answerControl kind body
  | .safety => s.answerSafety kind body

/-- R155, R166: a good frame, from its first length byte to its second check byte, is taken as one request. -/
def State.takeFrame (s : State) (line : Line) (frame : List Byte) : State :=
  (s.answerTo line (byteAt frame 2) ((frame.drop 4).take (keptLength frame - 2))).settle line (byteAt frame 2)
    (byteAt frame 3)

/-- A line's receiver replaced. -/
def State.setReceiver (s : State) (line : Line) (r : Receiver) : State :=
  s.setLine line { s.line line with receiver := r }

/-- R152, R154, R155: one byte received on a line. A byte that completes a good frame has its request taken. A
frame whose check is wrong is discarded. While a reply is pending the byte is ignored. -/
def State.feedByte (s : State) (line : Line) (b : Byte) : State :=
  let r := (s.line line).receiver
  if s.listens line then
    if (r.completes b).any goodCheck then s.takeFrame line (r.kept ++ [b]) else s.setReceiver line (r.byte b)
  else s

/-- Bytes received on a line, one after the other. -/
def State.feed (s : State) (line : Line) (bytes : List Byte) : State :=
  bytes.foldl (fun s b => s.feedByte line b) s

/-- R152, R155: the bytes of a good frame of a kind, a tag and a body. A line that hunts takes the frame as one
request event, at the end of its last check byte (log 1). Amid another frame its bytes are that frame's data.
While a reply is pending on the line it is discarded whole (log 2). -/
def State.request (s : State) (line : Line) (kind tag : Byte) (body : List Byte) (answer : State → Answer) :
    Host.Outcome State Fault Refusal :=
  .next <|
    if s.listens line then
      if (s.line line).receiver.state = .hunt then (answer s).settle line kind tag
      else s.feed line (frameOf kind tag body)
    else s

end Sys2Proof.Machine
end

