-- ==== Sys2Proof/Machine/LineEvents.lean ====
section
/-! DEFINITION. The events of a line that are no good frame (chapter 9): START_BYTE, CHECK_FAILED,
FRAME_DURING_REPLY, FRAMING_ERROR, PARTIAL_FRAME_GAP, REPLY_SENT. -/

namespace Sys2Proof.Machine

/-- R152: a byte A5h, and the bytes that follow it so far. While hunting it begins a new frame; otherwise it is
data, and may be the last byte of the frame being collected (log 21). -/
def execStartByte (line : Line) (following : List Byte) (s : State) : Host.Outcome State Fault Refusal :=
  s.whenPowered fun s => s.feed line (startByteValue :: following)

/-- R152, R154: a start byte and the bytes after it, which end a frame that fails: it is discarded with no reply
and no effect, and the bytes after an impossible length are examined as in HUNT. -/
def execCheckFailed (line : Line) (bytes : List Byte) (s : State) : Host.Outcome State Fault Refusal :=
  s.whenPowered fun s => s.feed line (startByteValue :: bytes)

/-- R155: a frame that arrives while a reply is pending on its line is discarded whole. -/
def execFrameDuringReply (_line : Line) (s : State) : Host.Outcome State Fault Refusal :=
  s.whenPowered fun s => s

/-- R151, R153: the frame being collected on a line is discarded; a hunting receiver is left as it is. -/
def State.discardPartial (s : State) (line : Line) : State :=
  if s.listens line ∧ (s.line line).receiver.state ≠ .hunt then s.setReceiver line Receiver.hunting else s

/-- R151: a framing error discards a partial frame; while hunting it is ignored. -/
def execFramingError (line : Line) (s : State) : Host.Outcome State Fault Refusal :=
  s.whenPowered fun s => s.discardPartial line

/-- R153: a gap of more than 2 ms within a partial frame discards it; in HUNT it has no effect. -/
def execPartialFrameGap (line : Line) (s : State) : Host.Outcome State Fault Refusal :=
  s.whenPowered fun s => s.discardPartial line

/-- R155: the last byte of a line's reply has been sent. -/
def execReplySent (line : Line) (s : State) : Host.Outcome State Fault Refusal :=
  s.whenPowered fun s => s.setLine line { s.line line with reply := none }

end Sys2Proof.Machine
end

