-- ==== Sys2Proof/Machine/Requests.lean ====
section
/-! DEFINITION. The meanings of the commands that are good frames (R155): each request of Tables 9-3 and 9-4,
and a frame of a kind its line does not accept. -/

namespace Sys2Proof.Machine

/-- R163: STAT. -/
def execStat (tag : Byte) (body : List Byte) (s : State) : Host.Outcome State Fault Refusal :=
  s.request .control 0x01 tag body fun s => s.answerStat body

/-- R161: NOTF. -/
def execNotf (tag : Byte) (body : List Byte) (s : State) : Host.Outcome State Fault Refusal :=
  s.request .control 0x02 tag body fun s => s.answerNotf body

/-- R162: SUBS. -/
def execSubs (tag : Byte) (body : List Byte) (s : State) : Host.Outcome State Fault Refusal :=
  s.request .control 0x03 tag body fun s => s.answerSubs body

/-- R24: INSET. -/
def execInset (tag : Byte) (body : List Byte) (s : State) : Host.Outcome State Fault Refusal :=
  s.request .control 0x08 tag body fun s => s.answerInset body

/-- R26: INGET. -/
def execInget (tag : Byte) (body : List Byte) (s : State) : Host.Outcome State Fault Refusal :=
  s.request .control 0x09 tag body fun s => s.answerInget body

/-- R73: ZNSET. -/
def execZnset (tag : Byte) (body : List Byte) (s : State) : Host.Outcome State Fault Refusal :=
  s.request .control 0x0A tag body fun s => s.answerZnset body

/-- R75: ZNGET. -/
def execZnget (tag : Byte) (body : List Byte) (s : State) : Host.Outcome State Fault Refusal :=
  s.request .control 0x0B tag body fun s => s.answerZnget body

/-- R8: ZNGEO. -/
def execZngeo (tag : Byte) (body : List Byte) (s : State) : Host.Outcome State Fault Refusal :=
  s.request .control 0x0C tag body fun s => s.answerZngeo body

/-- R5: STSET. -/
def execStset (tag : Byte) (body : List Byte) (s : State) : Host.Outcome State Fault Refusal :=
  s.request .control 0x10 tag body fun s => s.answerStset body

/-- R6: STGET. -/
def execStget (tag : Byte) (body : List Byte) (s : State) : Host.Outcome State Fault Refusal :=
  s.request .control 0x11 tag body fun s => s.answerStget body

/-- R12: CLIM. -/
def execClim (tag : Byte) (body : List Byte) (s : State) : Host.Outcome State Fault Refusal :=
  s.request .control 0x12 tag body fun s => s.answerClim body

/-- R71: SEND. -/
def execSend (tag : Byte) (body : List Byte) (s : State) : Host.Outcome State Fault Refusal :=
  s.request .control 0x18 tag body fun s => s.answerSend body

/-- R92: XPRD. -/
def execXprd (tag : Byte) (body : List Byte) (s : State) : Host.Outcome State Fault Refusal :=
  s.request .control 0x19 tag body fun s => s.answerXprd body

/-- R87: SNAP. -/
def execSnap (tag : Byte) (body : List Byte) (s : State) : Host.Outcome State Fault Refusal :=
  s.request .control 0x1A tag body fun s => s.answerSnap body

/-- R46: ARSET. -/
def execArset (tag : Byte) (body : List Byte) (s : State) : Host.Outcome State Fault Refusal :=
  s.request .control 0x20 tag body fun s => s.answerArset body

/-- R63: OLRD. -/
def execOlrd (tag : Byte) (body : List Byte) (s : State) : Host.Outcome State Fault Refusal :=
  s.request .control 0x21 tag body fun s => s.answerOlrd body

/-- R95: JOIN. -/
def execJoin (tag : Byte) (body : List Byte) (s : State) : Host.Outcome State Fault Refusal :=
  s.request .control 0x22 tag body fun s => s.answerJoin body

/-- R99: SPLT. -/
def execSplt (tag : Byte) (body : List Byte) (s : State) : Host.Outcome State Fault Refusal :=
  s.request .control 0x23 tag body fun s => s.answerSplt body

/-- R59: PAUS. -/
def execPaus (tag : Byte) (body : List Byte) (s : State) : Host.Outcome State Fault Refusal :=
  s.request .control 0x24 tag body fun s => s.answerPaus body

/-- R59: RSUM. -/
def execRsum (tag : Byte) (body : List Byte) (s : State) : Host.Outcome State Fault Refusal :=
  s.request .control 0x25 tag body fun s => s.answerRsum body

/-- R114: PNSET. -/
def execPnset (tag : Byte) (body : List Byte) (s : State) : Host.Outcome State Fault Refusal :=
  s.request .control 0x28 tag body fun s => s.answerPnset body

/-- R116: PNGET. -/
def execPnget (tag : Byte) (body : List Byte) (s : State) : Host.Outcome State Fault Refusal :=
  s.request .control 0x29 tag body fun s => s.answerPnget body

/-- R120: SCRC. -/
def execScrc (tag : Byte) (body : List Byte) (s : State) : Host.Outcome State Fault Refusal :=
  s.request .control 0x30 tag body fun s => s.answerScrc body

/-- R126: SCST. -/
def execScst (tag : Byte) (body : List Byte) (s : State) : Host.Outcome State Fault Refusal :=
  s.request .control 0x31 tag body fun s => s.answerScst body

/-- R127: SCER. -/
def execScer (tag : Byte) (body : List Byte) (s : State) : Host.Outcome State Fault Refusal :=
  s.request .control 0x32 tag body fun s => s.answerScer body

/-- R134: SCLS. -/
def execScls (tag : Byte) (body : List Byte) (s : State) : Host.Outcome State Fault Refusal :=
  s.request .control 0x33 tag body fun s => s.answerScls body

/-- R128: BLDW. -/
def execBldw (tag : Byte) (body : List Byte) (s : State) : Host.Outcome State Fault Refusal :=
  s.request .control 0x34 tag body fun s => s.answerBldw body

/-- R124: STEN. -/
def execSten (tag : Byte) (body : List Byte) (s : State) : Host.Outcome State Fault Refusal :=
  s.request .control 0x35 tag body fun s => s.answerSten body

/-- R124: STDI. -/
def execStdi (tag : Byte) (body : List Byte) (s : State) : Host.Outcome State Fault Refusal :=
  s.request .control 0x36 tag body fun s => s.answerStdi body

/-- R130: PROT. -/
def execProt (tag : Byte) (body : List Byte) (s : State) : Host.Outcome State Fault Refusal :=
  s.request .control 0x37 tag body fun s => s.answerProt body

/-- R137: ALCF. -/
def execAlcf (tag : Byte) (body : List Byte) (s : State) : Host.Outcome State Fault Refusal :=
  s.request .control 0x38 tag body fun s => s.answerAlcf body

/-- R138: ALRD. -/
def execAlrd (tag : Byte) (body : List Byte) (s : State) : Host.Outcome State Fault Refusal :=
  s.request .control 0x39 tag body fun s => s.answerAlrd body

/-- R140: ARM1. -/
def execArm1 (tag : Byte) (body : List Byte) (s : State) : Host.Outcome State Fault Refusal :=
  s.request .control 0x3A tag body fun s => s.answerArm1 body

/-- R140: ARM2. -/
def execArm2 (tag : Byte) (body : List Byte) (s : State) : Host.Outcome State Fault Refusal :=
  s.request .control 0x3B tag body fun s => s.answerArm2 body

/-- R164: RSTA. -/
def execRsta (tag : Byte) (body : List Byte) (s : State) : Host.Outcome State Fault Refusal :=
  s.request .control 0x3F tag body fun s => s.answerRsta body

/-- R146: ALON. -/
def execAlon (tag : Byte) (body : List Byte) (s : State) : Host.Outcome State Fault Refusal :=
  s.request .safety 0x50 tag body fun s => s.answerAlon body

/-- R146: ALOF. -/
def execAlof (tag : Byte) (body : List Byte) (s : State) : Host.Outcome State Fault Refusal :=
  s.request .safety 0x51 tag body fun s => s.answerAlof body

/-- R143: SUPV. -/
def execSupv (tag : Byte) (body : List Byte) (s : State) : Host.Outcome State Fault Refusal :=
  s.request .safety 0x52 tag body fun s => s.answerSupv body

/-- R156: a good frame whose kind its line does not accept. -/
def execUnknownKind (line : Line) (kind tag : Byte) (body : List Byte) (s : State) :
    Host.Outcome State Fault Refusal :=
  s.request line kind tag body fun s => s.refuse .unknownKind

end Sys2Proof.Machine
end

