-- ==== Sys2Proof/Machine/Dispatch.lean ====
section
/-! DEFINITION. The meaning of every command: one arm per constructor of `Instr`, in the table's order. -/

namespace Sys2Proof.Machine

/-- A command's effect on everything but the queue of waiting commands. -/
def exec (i : Instr) (s : State) : Host.Outcome State Fault Refusal :=
  match i with
  | .stat tag body => Sys2Proof.Machine.execStat tag body s
  | .notf tag body => Sys2Proof.Machine.execNotf tag body s
  | .subs tag body => Sys2Proof.Machine.execSubs tag body s
  | .inset tag body => Sys2Proof.Machine.execInset tag body s
  | .inget tag body => Sys2Proof.Machine.execInget tag body s
  | .znset tag body => Sys2Proof.Machine.execZnset tag body s
  | .znget tag body => Sys2Proof.Machine.execZnget tag body s
  | .zngeo tag body => Sys2Proof.Machine.execZngeo tag body s
  | .stset tag body => Sys2Proof.Machine.execStset tag body s
  | .stget tag body => Sys2Proof.Machine.execStget tag body s
  | .clim tag body => Sys2Proof.Machine.execClim tag body s
  | .send tag body => Sys2Proof.Machine.execSend tag body s
  | .xprd tag body => Sys2Proof.Machine.execXprd tag body s
  | .snap tag body => Sys2Proof.Machine.execSnap tag body s
  | .arset tag body => Sys2Proof.Machine.execArset tag body s
  | .olrd tag body => Sys2Proof.Machine.execOlrd tag body s
  | .join tag body => Sys2Proof.Machine.execJoin tag body s
  | .splt tag body => Sys2Proof.Machine.execSplt tag body s
  | .paus tag body => Sys2Proof.Machine.execPaus tag body s
  | .rsum tag body => Sys2Proof.Machine.execRsum tag body s
  | .pnset tag body => Sys2Proof.Machine.execPnset tag body s
  | .pnget tag body => Sys2Proof.Machine.execPnget tag body s
  | .scrc tag body => Sys2Proof.Machine.execScrc tag body s
  | .scst tag body => Sys2Proof.Machine.execScst tag body s
  | .scer tag body => Sys2Proof.Machine.execScer tag body s
  | .scls tag body => Sys2Proof.Machine.execScls tag body s
  | .bldw tag body => Sys2Proof.Machine.execBldw tag body s
  | .sten tag body => Sys2Proof.Machine.execSten tag body s
  | .stdi tag body => Sys2Proof.Machine.execStdi tag body s
  | .prot tag body => Sys2Proof.Machine.execProt tag body s
  | .alcf tag body => Sys2Proof.Machine.execAlcf tag body s
  | .alrd tag body => Sys2Proof.Machine.execAlrd tag body s
  | .arm1 tag body => Sys2Proof.Machine.execArm1 tag body s
  | .arm2 tag body => Sys2Proof.Machine.execArm2 tag body s
  | .rsta tag body => Sys2Proof.Machine.execRsta tag body s
  | .alon tag body => Sys2Proof.Machine.execAlon tag body s
  | .alof tag body => Sys2Proof.Machine.execAlof tag body s
  | .supv tag body => Sys2Proof.Machine.execSupv tag body s
  | .unknownKind line kind tag body => Sys2Proof.Machine.execUnknownKind line kind tag body s
  | .checkFailed line bytes => Sys2Proof.Machine.execCheckFailed line bytes s
  | .frameDuringReply line => Sys2Proof.Machine.execFrameDuringReply line s
  | .framingError line => Sys2Proof.Machine.execFramingError line s
  | .partialFrameGap line => Sys2Proof.Machine.execPartialFrameGap line s
  | .inputFrame input samples => Sys2Proof.Machine.execInputFrame input samples s
  | .holdTick area => Sys2Proof.Machine.execHoldTick area s
  | .holdExpiry input => Sys2Proof.Machine.execHoldExpiry input s
  | .planFrameStep audio => Sys2Proof.Machine.execPlanFrameStep audio s
  | .moveEnd crosspoint => Sys2Proof.Machine.execMoveEnd crosspoint s
  | .storeCompletion => Sys2Proof.Machine.execStoreCompletion s
  | .panelSample panel lineA lineB lineZ => Sys2Proof.Machine.execPanelSample panel lineA lineB lineZ s
  | .keySwitchSample level => Sys2Proof.Machine.execKeySwitchSample level s
  | .supervisionTick => Sys2Proof.Machine.execSupervisionTick s
  | .supervisionExpiry => Sys2Proof.Machine.execSupervisionExpiry s
  | .powerOn => Sys2Proof.Machine.execPowerOn s
  | .restart => Sys2Proof.Machine.execRestart s
  | .powerLoss => Sys2Proof.Machine.execPowerLoss s
  | .frameBoundary => Sys2Proof.Machine.execFrameBoundary s
  | .replySent line => Sys2Proof.Machine.execReplySent line s
  | .startByte line following => Sys2Proof.Machine.execStartByte line following s

end Sys2Proof.Machine
end

