-- ==== Sys2Proof/Safety.lean ====
section
/-! DEFINITION. What a sound state of the part is, in the terms the claims use: the properties that the spec
states of the whole machine, each kept by every step. -/

namespace Sys2Proof.Safety

open Sys2Proof.Machine

/-! ### Requests and replies -/

/-- R155: the part has power and no reply is pending on this line, so that bytes are received there. -/
def Listening (s : State) (line : Line) : Prop := s.powered = true ∧ (s.line line).reply = none

/-- R152, R155: a good frame on this line is taken: its receiver listens, and hunts. -/
def Ready (s : State) (line : Line) : Prop := Listening s line ∧ (s.line line).receiver.state = .hunt

/-- R155, R158, R166, R167: the line's receiver hunts, and its pending reply is the frame of the request's kind
plus 80h, its tag, a result, the status byte of the state as it stands, and data. That the reply is formed in the
event of its request is the model's choice (log 26). -/
def Replied (t : State) (line : Line) (kind tag : Byte) (result : Result) (data : List Byte) : Prop :=
  t.line line
    = ⟨Receiver.hunting, some (frameOf (kind + 0x80) tag (resultCode result :: t.statusByte :: data))⟩

/-- R160: the state after notices raised one after the other, each of a kind, a subject number and a value. -/
def afterNotices (s : State) (notices : List (NoticeKind × Nat × Int)) : State :=
  notices.foldl (fun s n => s.raise n.1 n.2.1 n.2.2) s

/-- From `s` to `t` these notices alone have been raised, in this order. -/
def Notified (s t : State) (notices : List (NoticeKind × Nat × Int)) : Prop :=
  t.queue = (afterNotices s notices).queue ∧ t.overflow = (afterNotices s notices).overflow

/-- R18, R20: the DELAY-CLAMPED notices of a recompute of these crosspoints, in ascending index. -/
def clampedNotices (t : State) (which : Fin 384 → Bool) : List (NoticeKind × Nat × Int) :=
  ((List.finRange 384).filter fun y => which y && decide (16383 < t.delaySumOf y)).map fun y =>
    (.delayClamped, y.val, (t.delaySumOf y : Int))

/-- DONE, or CLAMPED where a value was taken at a limit (R157). -/
def doneUnless (clamped : Prop) [Decidable clamped] : Result := if clamped then .clamped else .done

/-- The line, kind, tag and body of a command that is a good frame (Tables 9-3 and 9-4, R156). -/
def requestOf : Instr → Option (Line × Byte × Byte × List Byte)
  | .stat tag body => some (.control, 0x01, tag, body)
  | .notf tag body => some (.control, 0x02, tag, body)
  | .subs tag body => some (.control, 0x03, tag, body)
  | .inset tag body => some (.control, 0x08, tag, body)
  | .inget tag body => some (.control, 0x09, tag, body)
  | .znset tag body => some (.control, 0x0A, tag, body)
  | .znget tag body => some (.control, 0x0B, tag, body)
  | .zngeo tag body => some (.control, 0x0C, tag, body)
  | .stset tag body => some (.control, 0x10, tag, body)
  | .stget tag body => some (.control, 0x11, tag, body)
  | .clim tag body => some (.control, 0x12, tag, body)
  | .send tag body => some (.control, 0x18, tag, body)
  | .xprd tag body => some (.control, 0x19, tag, body)
  | .snap tag body => some (.control, 0x1A, tag, body)
  | .arset tag body => some (.control, 0x20, tag, body)
  | .olrd tag body => some (.control, 0x21, tag, body)
  | .join tag body => some (.control, 0x22, tag, body)
  | .splt tag body => some (.control, 0x23, tag, body)
  | .paus tag body => some (.control, 0x24, tag, body)
  | .rsum tag body => some (.control, 0x25, tag, body)
  | .pnset tag body => some (.control, 0x28, tag, body)
  | .pnget tag body => some (.control, 0x29, tag, body)
  | .scrc tag body => some (.control, 0x30, tag, body)
  | .scst tag body => some (.control, 0x31, tag, body)
  | .scer tag body => some (.control, 0x32, tag, body)
  | .scls tag body => some (.control, 0x33, tag, body)
  | .bldw tag body => some (.control, 0x34, tag, body)
  | .sten tag body => some (.control, 0x35, tag, body)
  | .stdi tag body => some (.control, 0x36, tag, body)
  | .prot tag body => some (.control, 0x37, tag, body)
  | .alcf tag body => some (.control, 0x38, tag, body)
  | .alrd tag body => some (.control, 0x39, tag, body)
  | .arm1 tag body => some (.control, 0x3A, tag, body)
  | .arm2 tag body => some (.control, 0x3B, tag, body)
  | .rsta tag body => some (.control, 0x3F, tag, body)
  | .alon tag body => some (.safety, 0x50, tag, body)
  | .alof tag body => some (.safety, 0x51, tag, body)
  | .supv tag body => some (.safety, 0x52, tag, body)
  | .unknownKind line kind tag body => some (line, kind, tag, body)
  | _ => none

/-- The unsigned number that a body's byte at an offset holds; 0 past the body's end. -/
def byteNumber (body : List Byte) (offset : Nat) : Nat := (body.getD offset 0).toNat

/-- Table 10-9 and R174: the body fits its kind: its length, and that of the label it ends in, if any. -/
def bodyFits (kind : Byte) (body : List Byte) : Bool :=
  let n := body.length
  match kind.toNat with
  | 0x03 => decide (n ≤ 13)
  | 0x08 => decide (n = 14)
  | 0x0A => decide (n = 10)
  | 0x0C => decide (byteNumber body 19 ≤ 12 ∧ n = 20 + byteNumber body 19)
  | 0x10 => decide (byteNumber body 8 ≤ 12 ∧ n = 9 + byteNumber body 8)
  | 0x12 => decide (n = 6)
  | 0x18 => decide (4 ≤ n ∧ n ≤ 34 ∧ n % 2 = 0)
  | 0x19 => decide (n = 3)
  | 0x20 => decide (n = 8)
  | 0x22 => decide (n = 2)
  | 0x28 => decide (n = 8)
  | 0x30 => decide (n = 3)
  | 0x31 => decide (byteNumber body 1 ≤ 16 ∧ n = 2 + byteNumber body 1)
  | 0x33 => decide (n = 2)
  | 0x37 => decide (n = 2)
  | 0x38 => decide (n = 36)
  | 0x09 | 0x0B | 0x11 | 0x1A | 0x21 | 0x23 | 0x24 | 0x25 | 0x29 | 0x32 | 0x34 | 0x3B | 0x52 => decide (n = 1)
  | _ => decide (n = 0)

/-- R176 and the owning rules: the target that a fitting body names is in range. -/
def targetInRange (kind : Byte) (body : List Byte) : Bool :=
  let first := byteNumber body 0
  let second := byteNumber body 1
  match kind.toNat with
  | 0x08 | 0x09 => decide (1 ≤ first ∧ first ≤ 24)
  | 0x0A | 0x0B | 0x0C => decide (1 ≤ first ∧ first ≤ 16)
  | 0x10 | 0x11 => decide (1 ≤ first ∧ first ≤ 32)
  | 0x18 =>
    decide (1 ≤ first ∧ first ≤ 24 ∧ 1 ≤ second ∧ second ≤ 16 ∧ second - 1 + (body.length - 2) / 2 ≤ 16)
  | 0x19 => decide (first + 256 * second ≤ 383)
  | 0x1A => decide (first ≤ 16)
  | 0x20 | 0x21 | 0x23 | 0x24 | 0x25 => decide (1 ≤ first ∧ first ≤ 4)
  | 0x22 => decide (1 ≤ first ∧ first ≤ 4 ∧ 1 ≤ second ∧ second ≤ 4)
  | 0x28 | 0x29 => decide (1 ≤ first ∧ first ≤ 8)
  | 0x30 | 0x31 | 0x32 | 0x33 => decide (first ≤ 63)
  | _ => true

/-- R176: the characters from an offset on lie in 20h..7Eh. -/
def charactersInSet (body : List Byte) (offset : Nat) : Bool :=
  (body.drop offset).all fun c => decide (0x20 ≤ c.toNat ∧ c.toNat ≤ 0x7E)

/-- R176: a slot, or FFh for NONE. -/
def slotOrNoneInSet (n : Nat) : Bool := decide (n ≤ 63 ∨ n = 255)

/-- R176 and the owning rules: every set field of a fitting body holds a code of its set. -/
def valuesInSet (kind : Byte) (body : List Byte) : Bool :=
  let at_ := byteNumber body
  match kind.toNat with
  | 0x03 => body.all fun b => decide (1 ≤ b.toNat ∧ b.toNat ≤ 13)
  | 0x08 => decide (at_ 1 ≤ 2 ∧ at_ 4 ≤ 32 ∧ at_ 5 ≤ 4 ∧ at_ 13 ≤ 1)
  | 0x0A => decide (at_ 1 ≤ 4)
  | 0x0C => charactersInSet body 20
  | 0x10 => decide (at_ 1 ≤ 1) && charactersInSet body 9
  | 0x12 => decide (at_ 0 ≤ 3)
  | 0x20 => decide (at_ 2 ≤ 1 ∧ at_ 7 ≤ 2)
  | 0x28 => decide (at_ 1 ≤ 16 ∧ at_ 2 ≤ 1 ∧ (at_ 3 = 1 ∨ at_ 3 = 2 ∨ at_ 3 = 4))
  | 0x30 => decide (at_ 1 ≤ 1 ∧ at_ 2 ≤ 1)
  | 0x31 => charactersInSet body 2
  | 0x34 => slotOrNoneInSet (at_ 0)
  | 0x37 => decide (at_ 0 ≤ 3 ∧ at_ 1 ≤ 1)
  | 0x38 => decide (at_ 33 ≤ 2 ∧ at_ 35 ≤ 1) && slotOrNoneInSet (at_ 34)
  | 0x3B => decide (at_ 0 ≤ 1)
  | _ => true

/-! ### The values that a request's encoding can carry, and what they are taken as (R157, R175) -/

/-- A value that a signed field of two bytes can carry. -/
def Signed16 (v : Int) : Prop := -32768 ≤ v ∧ v ≤ 32767

/-- A value that an unsigned field of one byte can carry. -/
def Unsigned8 (n : Nat) : Prop := n ≤ 255

/-- A value that an unsigned field of two bytes can carry. -/
def Unsigned16 (n : Nat) : Prop := n ≤ 65535

/-- R165: a label of at most a number of characters, each in 20h..7Eh. -/
def LabelFits (label : List Byte) (greatest : Nat) : Prop :=
  label.length ≤ greatest ∧ ∀ c ∈ label, 0x20 ≤ c.toNat ∧ c.toNat ≤ 0x7E

/-- Input settings that a record of Table 10-8 can carry. -/
def InputSent (x : InputSettings) : Prop :=
  Signed16 x.trim ∧ Unsigned8 x.priority ∧ Unsigned16 x.offset ∧ Unsigned8 x.debounce ∧ Unsigned8 x.holdCode
    ∧ Unsigned8 x.attackCode ∧ Unsigned8 x.releaseCode

/-- R24: what input settings are taken as. -/
def inputTaken (x : InputSettings) : InputSettings :=
  { x with trim := max (-200) (min 200 x.trim), priority := min 3 x.priority,
           offset := max 30 (min 300 x.offset), debounce := max 1 (min 16 x.debounce),
           holdCode := min 31 x.holdCode, attackCode := min 31 x.attackCode,
           releaseCode := min 31 x.releaseCode }

/-- Zone scene fields that a ZNSET can carry. -/
def ZoneSceneSent (x : ZoneScene) : Prop :=
  Signed16 x.level ∧ Signed16 x.trimDefault ∧ Signed16 x.trimMin ∧ Signed16 x.trimMax

/-- R73: what zone scene fields are taken as: the limits first, then the default within them. -/
def zoneSceneTaken (x : ZoneScene) : ZoneScene :=
  { x with level := max (-600) (min 60 x.level), trimMin := max (-300) (min 0 x.trimMin),
           trimMax := max 0 (min 60 x.trimMax),
           trimDefault := max (max (-300) (min 0 x.trimMin)) (min (max 0 (min 60 x.trimMax)) x.trimDefault) }

/-- A point that three coordinate fields can carry. -/
def PointSent (p : Point) : Prop := Unsigned16 p.x ∧ Unsigned16 p.y ∧ Unsigned16 p.z

/-- R5, R8: what a point is taken as. -/
def pointTaken (p : Point) : Point := ⟨min 32767 p.x, min 32767 p.y, min 32767 p.z⟩

/-- A station entry that a STSET can carry. -/
def StationSent (x : Station) : Prop := LabelFits x.label 12 ∧ PointSent x.point

/-- R5: what a station entry is taken as. -/
def stationTaken (x : Station) : Station := { x with point := pointTaken x.point }

/-- A zone geometry entry that a ZNGEO can carry. -/
def GeometrySent (x : ZoneGeometry) : Prop :=
  LabelFits x.label 12 ∧ PointSent x.speaker ∧ PointSent x.listener ∧ Unsigned16 x.precedence
    ∧ Unsigned16 x.extra ∧ Unsigned8 x.moveCode ∧ Unsigned8 x.slew

/-- R8: what a zone geometry entry is taken as. -/
def geometryTaken (x : ZoneGeometry) : ZoneGeometry :=
  { x with speaker := pointTaken x.speaker, listener := pointTaken x.listener,
           precedence := min 1023 x.precedence, extra := min 4095 x.extra, moveCode := min 31 x.moveCode,
           slew := max 1 (min 60 x.slew) }

/-- R12: what a temperature is taken as. -/
def temperatureTaken (v : Int) : Int := max (-200) (min 450 v)

/-- R71: what a send is taken as. -/
def sendTaken (v : Int) : Int := if v < -600 then -1000 else min 0 v

/-- Area settings that an ARSET can carry. -/
def AreaSent (x : AreaSettings) : Prop := Unsigned8 x.maxOpen ∧ Signed16 x.depth ∧ Unsigned16 x.margin

/-- R46: what area settings are taken as. -/
def areaTaken (x : AreaSettings) : AreaSettings :=
  { x with maxOpen := max 1 (min 8 x.maxOpen), depth := if x.depth < -600 then -1000 else min (-60) x.depth,
           margin := if x.margin = 0 then 0 else max 30 (min 200 x.margin) }

/-- The building part of panel settings that a PNSET can carry: the edges are a value of their set. -/
def PanelSent (x : PanelBuilding) : Prop :=
  (x.edges = 1 ∨ x.edges = 2 ∨ x.edges = 4) ∧ Unsigned8 x.step ∧ Unsigned8 x.filterCount
    ∧ Signed16 x.threshold

/-- R114: what the building part of panel settings is taken as. -/
def panelTaken (x : PanelBuilding) : PanelBuilding :=
  { x with step := max 1 (min 30 x.step), filterCount := max 2 (min 15 x.filterCount),
           threshold := max (-300) (min 60 x.threshold) }

/-- Alarm settings that an ALCF can carry. -/
def AlarmSent (x : AlarmSettings) : Prop := (∀ z, Signed16 (x.levels.get z)) ∧ Unsigned8 x.code

/-- R137: what alarm settings are taken as. -/
def alarmTaken (x : AlarmSettings) : AlarmSettings :=
  { x with levels := Table.ofFn fun z => max (-300) (min 120 (x.levels.get z)), code := min 31 x.code }

/-! ### Store requests (R123) -/

/-- R125, Table 7-3: the target of a store operation lies in the protected range of a level. -/
def InProtectedRange (level : Protection) : StoreOp → Prop
  | .scst k _ => (level = .quarter ∧ 48 ≤ k.val) ∨ (level = .half ∧ 32 ≤ k.val) ∨ level = .full
  | .scer k => (level = .quarter ∧ 48 ≤ k.val) ∨ (level = .half ∧ 32 ≤ k.val) ∨ level = .full
  | .bldw _ => level = .full
  | .alcf _ => level = .full
  | .prot _ => False

/-- R123, steps 4 and 5: the alarm state or the key switch does not allow an operation. The key switch is
LOCKED when its accepted level is low (R117). -/
def LockedOut (s : State) : StoreOp → Prop
  | .alcf _ => s.alarm.state ≠ .disarmed
  | .prot _ => s.guard.lock = true ∧ s.key.accepted = some false
  | _ => False

/-- A store request whose arguments pass their checks: the command, the operation it asks for from a state,
its kind and whether a value it carries is clamped. -/
inductive StoreAsked (s : State) (tag : Byte) : Instr → StoreOp → Byte → Bool → Prop
  | scst (k : Fin 64) (label : List Byte) (fits : LabelFits label 16) :
    StoreAsked s tag (.scst tag (byteOf k.val ++ labelBytes label)) (.scst k (s.liveSetup label)) 0x31 false
  | scer (k : Fin 64) : StoreAsked s tag (.scer tag (byteOf k.val)) (.scer k) 0x32 false
  | bldw (startup : Option (Fin 64)) :
    StoreAsked s tag (.bldw tag (slotByte startup)) (.bldw (s.liveGeometry startup)) 0x34 false
  | prot (g : Guard) :
    StoreAsked s tag (.prot tag (protectionByte g.level ++ flagByte g.lock)) (.prot g) 0x37 false
  | alcf (x : AlarmSettings) (sent : AlarmSent x) :
    StoreAsked s tag (.alcf tag x.bytes) (.alcf (alarmTaken x)) 0x38 (decide (alarmTaken x ≠ x))

/-! ### What stands, and what one step of a gain does -/

/-- The live flag, the send and the gains of a crosspoint stand. -/
def SameGains (p q : Crosspoint) : Prop :=
  q.live = p.live ∧ q.send = p.send ∧ q.targetGain = p.targetGain ∧ q.activeGain = p.activeGain

/-- The delays of a crosspoint stand. -/
def SameDelays (p q : Crosspoint) : Prop :=
  q.targetDelay = p.targetDelay ∧ q.activeDelay = p.activeDelay ∧ q.move = p.move
    ∧ q.pendingDelay = p.pendingDelay

/-- The frame level, the noise-floor estimate, the rise count, the gate gain (also the one last used) and the
delay memory of an input stand, and whether its frame has been taken. -/
def SameSignal (x y : Input) : Prop :=
  y.level = x.level ∧ y.noiseFloor = x.noiseFloor ∧ y.rise = x.rise ∧ y.gain = x.gain ∧ y.memory = x.memory
    ∧ y.gainUsed = x.gainUsed ∧ y.frameTaken = x.frameTaken

/-- R80: a crosspoint with this record is inaudible. -/
def Inaudible (s : State) (x : Fin 384) (p : Crosspoint) : Prop :=
  p.activeGain = -1000
    ∨ ((s.input (inputOf x)).settings.mode = .gated ∧ (s.input (inputOf x)).gain = -1000)

/-- The duration in frames of the move time code in force at a crosspoint's zone. -/
def moveFramesAt (s : State) (x : Fin 384) : Nat := timeCodeMs (s.zone (zoneOf x)).geometry.moveCode

/-- R81, R82: the delays of a crosspoint before and after a delay target arrives at it, where it is inaudible or
not and a move would take `frames`. A STEADY one stands at its target at once where it is inaudible or a move would
take no time, and otherwise starts a move; a MOVING one keeps its move, and the target becomes the pending delay
unless it is the delay moved to. -/
def TargetArrived (inaudible : Prop) (frames target : Nat) (p q : Crosspoint) : Prop :=
  q.targetDelay = target
    ∧ (p.move = none →
        q.pendingDelay = p.pendingDelay
        ∧ (target = p.activeDelay → q.activeDelay = p.activeDelay ∧ q.move = none)
        ∧ (target ≠ p.activeDelay → (inaudible ∨ frames = 0) → q.activeDelay = target ∧ q.move = none)
        ∧ (target ≠ p.activeDelay → ¬ inaudible → frames ≠ 0 →
            q.activeDelay = p.activeDelay ∧ q.move = some ⟨target, 0, frames⟩))
    ∧ ∀ m, p.move = some m →
        q.activeDelay = p.activeDelay ∧ q.move = some m
        ∧ (target = m.dest → q.pendingDelay = none) ∧ (target ≠ m.dest → q.pendingDelay = some target)

/-- R17, R80 to R82: the delay target and the clamp flag that the live geometry of a state gives have arrived at a
crosspoint, whose record was `p` and is `q`. -/
def Retimed (t : State) (x : Fin 384) (p q : Crosspoint) : Prop :=
  TargetArrived (Inaudible t x p) (moveFramesAt t x) (min (t.delaySumOf x) 16383) p q
    ∧ (q.clamp = true ↔ 16383 < t.delaySumOf x)

/-- R39: the reversal count of an input before and after an event that may change its gate-gain target: one more, up
to 255, where the target was on one side of the gate gain and is now on the other. -/
def ReversalCounted (x y : Input) : Prop :=
  y.reversals
    = if (x.gain < x.target ∧ y.target < x.gain) ∨ (x.target < x.gain ∧ x.gain < y.target)
      then min 255 (x.reversals + 1) else x.reversals

/-! ### Entries that leave a list (R34, R47, R64) -/

/-- R47, R49: the entries that leave a list one after the other, as many as given, each the first in victim order of
those that still stand there. -/
def victims (s : State) : Nat → List Entry → List Entry
  | 0, _ => []
  | n + 1, entries =>
    match s.firstVictim entries with
    | none => []
    | some e => e :: victims s n (entries.eraseP fun f => f.input == e.input)

/-- The entries of a list whose inputs are not those of entries that leave. -/
def without (entries leaving : List Entry) : List Entry :=
  entries.filter fun e => !leaving.any fun f => f.input == e.input

/-- R64, Table 3-3: the LIST-CHANGE notices of entries that leave an area's list of a length one after the other, for
the reason of a code. -/
def departures (k : Area) (reason : Nat) : Nat → List Entry → List (NoticeKind × Nat × Int)
  | _, [] => []
  | length, e :: rest =>
    (.listChange, e.input.val + 1, ((areaNumber k * 65536 + reason * 256 + (length - 1) : Nat) : Int))
      :: departures k reason (length - 1) rest

/-- R34: the inputs of the entries that leave have become CLOSED with their counts cleared, and the gates and counts
of all others stand. -/
def Departed (s t : State) (leaving : List Entry) : Prop :=
  ∀ i, ((∃ e ∈ leaving, e.input = i) → (t.input i).gate = .closed ∧ (t.input i).qualifying = 0)
    ∧ ((∀ e ∈ leaving, e.input ≠ i) →
      (t.input i).gate = (s.input i).gate ∧ (t.input i).qualifying = (s.input i).qualifying)

/-- R54, R55: hold expiries taken one after the other, in the order given, at the list as the ones before left it:
what stands at the end, and the entries that left, in their order. An entry that may be retained is retained where it
is the only one. -/
def expiriesInTurn (retains : Entry → Bool) : List Entry → List Entry → List Entry × List Entry
  | [], standing => (standing, [])
  | e :: later, standing =>
    if standing.length = 1 ∧ retains e = true then
      expiriesInTurn retains later (standing.map fun f => { f with retained := true, hold := 0 })
    else
      let after := expiriesInTurn retains later (standing.eraseP fun f => f.input == e.input)
      (after.1, e :: after.2)

/-- What an event at the open lists or the area map leaves: of every input all but its gate, its count, its gate-gain
target and its reversal count, and of every crosspoint all but its live flag and its gain target. -/
def ListEvent (s t : State) : Prop :=
  (∀ j, t.input j = { s.input j with
      gate := (t.input j).gate, qualifying := (t.input j).qualifying, target := (t.input j).target,
      reversals := (t.input j).reversals })
    ∧ ∀ y, t.crosspoint y = { s.crosspoint y with
        live := (t.crosspoint y).live, targetGain := (t.crosspoint y).targetGain }

/-- R64, R121 stage 1: the LIST-CHANGE notices, reason WITHDRAWN, of the entries of the inputs that a test selects,
withdrawn in ascending input order. -/
def withdrawalNotices (s : State) (leaves : Fin 24 → Bool) : List (NoticeKind × Nat × Int) :=
  ((List.finRange 24).filter fun i => leaves i && s.isEntry i).flatMap fun i =>
    match s.inputArea i with
    | none => []
    | some k =>
      [(.listChange, i.val + 1,
        ((areaNumber k * 65536 + 4 * 256
          + ((s.area k).list.filter fun e => !(leaves e.input && decide (e.input ≤ i))).length : Nat) : Int))]

/-! ### The fields of a reply (R165, R168 to R174) -/

/-- The byte at an offset holds a number, modulo 256. -/
def ByteIs (data : List Byte) (offset : Nat) (v : Int) : Prop := (byteNumber data offset : Int) = v % 256

/-- The number that two bytes hold, least significant first. -/
def wordNumber (data : List Byte) (offset : Nat) : Nat := byteNumber data offset + 256 * byteNumber data (offset + 1)

/-- Two bytes at an offset hold a number in two's complement, modulo 65536. -/
def WordIs (data : List Byte) (offset : Nat) (v : Int) : Prop := (wordNumber data offset : Int) = v % 65536

/-- Four bytes at an offset hold a frame stamp. -/
def StampIs (data : List Byte) (offset : Nat) (stamp : Stamp) : Prop :=
  wordNumber data offset + 65536 * wordNumber data (offset + 2) = stamp.toNat

/-- R165: a label at an offset: its length and its characters. -/
def LabelIs (data : List Byte) (offset : Nat) (label : List Byte) : Prop :=
  ByteIs data offset label.length ∧ (data.drop (offset + 1)).take label.length = label

/-- Table 10-4: an area, 0 NONE. -/
def areaCode : Option Area → Nat
  | none => 0
  | some .a => 1
  | some .b => 2
  | some .c => 3
  | some .d => 4

/-- Table 10-4: a number from 1, or 0 for none. -/
def numberCode {n : Nat} : Option (Fin n) → Nat
  | none => 0
  | some i => i.val + 1

/-- Table 10-4: a slot, or FFh for NONE. -/
def slotCode : Option (Fin 64) → Nat
  | none => 255
  | some k => k.val

/-- Table 10-4: the input mode. -/
def modeCode : InputMode → Nat
  | .off => 0
  | .direct => 1
  | .gated => 2

/-- Table 10-4: the pause mode. -/
def pauseModeCode : PauseMode → Nat
  | .freeze => 0
  | .drain => 1
  | .track => 2

/-- Table 10-4: the gate state. -/
def gateCode : GateState → Nat
  | .closed => 0
  | .qualifying => 1
  | .denied => 2
  | .opened => 3
  | .holding => 4

/-- Table 10-4: the expiry action. -/
def expiryActionCode : ExpiryAction → Nat
  | .report => 0
  | .fallback => 1
  | .alert => 2

/-- Table 10-4: the protection level. -/
def protectionCode : Protection → Nat
  | .unprotected => 0
  | .quarter => 1
  | .half => 2
  | .full => 3

/-- Table 10-11: the slot state. -/
def slotStateCode : Slot → Nat
  | .empty => 0
  | .valid _ => 1
  | .incomplete => 2

/-- Table 10-11: the record state. -/
def recordStateCode {α : Type} : Stored α → Nat
  | .valid _ => 1
  | .incomplete => 2

/-- Table 10-11: the accepted level of a panel line. -/
def levelCode : Option Bool → Nat
  | some false => 0
  | some true => 1
  | none => 2

/-- Table 10-11: the direction of a panel. -/
def directionCode : Direction → Nat
  | .noDirection => 0
  | .clockwise => 1
  | .anticlockwise => 2

/-- Table 10-11: the zone output. -/
def sourceCode : ZoneSource → Nat
  | .crosspointSum => 0
  | .alarmSource => 1

/-- Table 10-8: an input settings record at an offset. -/
def InputRecordAt (data : List Byte) (o : Nat) (x : InputSettings) : Prop :=
  ByteIs data o (modeCode x.mode) ∧ WordIs data (o + 1) x.trim ∧ ByteIs data (o + 3) (numberCode x.station)
    ∧ ByteIs data (o + 4) (areaCode x.area) ∧ ByteIs data (o + 5) x.priority ∧ WordIs data (o + 6) x.offset
    ∧ ByteIs data (o + 8) x.debounce ∧ ByteIs data (o + 9) x.holdCode ∧ ByteIs data (o + 10) x.attackCode
    ∧ ByteIs data (o + 11) x.releaseCode ∧ ByteIs data (o + 12) x.lastMic.toNat

/-- Table 10-9, ZNSET: a zone scene record at an offset. -/
def ZoneSceneRecordAt (data : List Byte) (o : Nat) (x : ZoneScene) : Prop :=
  ByteIs data o (areaCode x.area) ∧ WordIs data (o + 1) x.level ∧ WordIs data (o + 3) x.trimDefault
    ∧ WordIs data (o + 5) x.trimMin ∧ WordIs data (o + 7) x.trimMax

/-- Three coordinates at an offset. -/
def PointAt (data : List Byte) (o : Nat) (p : Point) : Prop :=
  WordIs data o p.x ∧ WordIs data (o + 2) p.y ∧ WordIs data (o + 4) p.z

/-- Table 10-9, ZNGEO: a zone geometry record at an offset. -/
def GeometryRecordAt (data : List Byte) (o : Nat) (x : ZoneGeometry) : Prop :=
  PointAt data o x.speaker ∧ PointAt data (o + 6) x.listener ∧ WordIs data (o + 12) x.precedence
    ∧ WordIs data (o + 14) x.extra ∧ ByteIs data (o + 16) x.moveCode ∧ ByteIs data (o + 17) x.slew
    ∧ LabelIs data (o + 18) x.label

/-- Table 10-9, ARSET: an area settings record at an offset. -/
def AreaRecordAt (data : List Byte) (o : Nat) (x : AreaSettings) : Prop :=
  ByteIs data o x.maxOpen ∧ ByteIs data (o + 1) x.lastMicHold.toNat ∧ WordIs data (o + 2) x.depth
    ∧ WordIs data (o + 4) x.margin ∧ ByteIs data (o + 6) (pauseModeCode x.pauseMode)

/-- Table 10-9, PNSET: a panel settings record at an offset. -/
def PanelRecordAt (data : List Byte) (o : Nat) (x : PanelScene) (y : PanelBuilding) : Prop :=
  ByteIs data o (numberCode x.zone) ∧ ByteIs data (o + 1) x.enabled.toNat ∧ ByteIs data (o + 2) y.edges
    ∧ ByteIs data (o + 3) y.step ∧ ByteIs data (o + 4) y.filterCount ∧ WordIs data (o + 5) y.threshold

/-- Table 10-9, ALCF: an alarm settings record at an offset. -/
def AlarmRecordAt (data : List Byte) (o : Nat) (x : AlarmSettings) : Prop :=
  (∀ z : Fin 16, WordIs data (o + 2 * z.val) (x.levels.get z)) ∧ ByteIs data (o + 32) x.code
    ∧ ByteIs data (o + 33) (expiryActionCode x.action) ∧ ByteIs data (o + 34) (slotCode x.fallback)
    ∧ ByteIs data (o + 35) x.autoArm.toNat

/-- Table 10-6: a crosspoint read record at an offset. -/
def CrosspointRecordAt (data : List Byte) (o : Nat) (index : Nat) (p : Crosspoint) : Prop :=
  WordIs data o index
    ∧ ByteIs data (o + 2)
        (p.live.toNat + 2 * p.move.isSome.toNat + 4 * p.pendingDelay.isSome.toNat + 8 * p.clamp.toNat : Nat)
    ∧ WordIs data (o + 3) p.send ∧ WordIs data (o + 5) p.targetGain ∧ WordIs data (o + 7) p.activeGain
    ∧ WordIs data (o + 9) p.targetDelay ∧ WordIs data (o + 11) p.activeDelay
    ∧ (p.move = none → WordIs data (o + 13) 0 ∧ WordIs data (o + 15) 0 ∧ WordIs data (o + 17) 0)
    ∧ (∀ m, p.move = some m →
        WordIs data (o + 13) m.dest ∧ WordIs data (o + 15) m.elapsed ∧ WordIs data (o + 17) m.length)
    ∧ (p.pendingDelay = none → WordIs data (o + 19) 0)
    ∧ ∀ q, p.pendingDelay = some q → WordIs data (o + 19) q

/-- Table 10-7: an open-list entry record at an offset, with the gate state and the level of its input. -/
def EntryRecordAt (data : List Byte) (o : Nat) (e : Entry) (x : Input) : Prop :=
  ByteIs data o (e.input.val + 1) ∧ ByteIs data (o + 1) e.priority
    ∧ ByteIs data (o + 2) ((if x.gate = .holding then 1 else 0) + 2 * e.retained.toNat : Nat)
    ∧ StampIs data (o + 3) e.stamp ∧ WordIs data (o + 7) e.hold ∧ WordIs data (o + 9) e.openingLevel
    ∧ WordIs data (o + 11) x.level

/-- Table 10-10, SCLS: a slot at an offset: its number, its state, whether it is protected, and its label. -/
def SlotRecordAt (data : List Byte) (o : Nat) (level : Protection) (k : Fin 64) (slot : Slot) : Prop :=
  ByteIs data o k.val ∧ ByteIs data (o + 1) (slotStateCode slot)
    ∧ (InProtectedRange level (.scer k) → ByteIs data (o + 2) 1)
    ∧ (¬ InProtectedRange level (.scer k) → ByteIs data (o + 2) 0)
    ∧ (∀ scene, slot = .valid scene → LabelIs data (o + 3) scene.label)
    ∧ ((∀ scene, slot ≠ .valid scene) → LabelIs data (o + 3) [])

/-! ### Start-up (R135) -/

/-- R135, stage 3: a start-up from these stores recalls this slot's scene: the building record is VALID, its
start-up scene is the slot, and the slot is VALID. -/
def StartsFrom (store : Store) (k : Fin 64) (scene : Scene) : Prop :=
  ∃ b, store.building = .valid b ∧ b.startupScene = some k ∧ store.slots.get k = .valid scene

/-- R132, R135: the notices of a start-up that leaves `t` and recalled this slot or none, in their order. -/
def startupNotices (store : Store) (t : State) (recalled : Option (Fin 64)) : List (NoticeKind × Nat × Int) :=
  (if store.building = .incomplete then [(.recordIncomplete, 64, 0)] else [])
    ++ (if store.alarm = .incomplete then [(.recordIncomplete, 65, 0)] else [])
    ++ (if store.guard = .incomplete then [(.recordIncomplete, 66, 0)] else [])
    ++ clampedNotices t (fun _ => true)
    ++ (match recalled with
        | some k => [(.sceneRecalled, k.val, 3), (.startup, 0, (k.val : Int))]
        | none => [(.startup, 0, -1)])

/-- R78: an active gain before and after one plan step at a slew. -/
def PlanRamp (slew : Nat) (active target new : Int) : Prop :=
  (active = target → new = active)
    ∧ (active < target → active = -1000 → new = -600)
    ∧ (active < target → active ≠ -1000 → new = min (active + slew) target)
    ∧ (target < active → target ≠ -1000 → new = max (active - slew) target)
    ∧ (target < active → target = -1000 → active - slew < -600 → new = -1000)
    ∧ (target < active → target = -1000 → -600 ≤ active - slew → new = active - slew)

/-- R37, R38: a gate gain before and after stage 5 of a frame, with the step of the fade in its direction: a
fade code of 0 reaches the target at once, and otherwise the step is the span of the depth divided by the fade's
frames, rounded up and at least 1. -/
def GateGainStep (settings : InputSettings) (depth gain target new : Int) : Prop :=
  ∀ code span frames step : Nat,
    code = (if gain < target then settings.attackCode else settings.releaseCode) →
    (span : Int) = 0 - max depth (-600) → frames = timeCodeMs code →
    (1 ≤ frames → 1 ≤ step ∧ span ≤ step * frames ∧ (1 < step → (step - 1) * frames < span)) →
      (gain = target → new = gain)
      ∧ (gain ≠ target → code = 0 → new = target)
      ∧ (gain ≠ target → code ≠ 0 → PlanRamp step gain target new)

/-! ### Runs -/

/-- The state after commands taken one after the other. -/
def after (commands : List Instr) (s : State) : State :=
  commands.foldl (fun s c => match exec c s with | .next t => t | .fault _ => s | .refused _ => s) s

/-! ### Sound states -/

/-- R2: a gain of the plan is at the floor or within the range of the floor convention. -/
def GainInRange (g : Int) : Prop := g = -1000 ∨ (-600 ≤ g ∧ g ≤ 120)

/-- R2, R66: the target and active gains of every crosspoint. -/
def PlanGainsInRange (s : State) : Prop :=
  ∀ x, GainInRange (s.crosspoint x).targetGain ∧ GainInRange (s.crosspoint x).activeGain

/-- R66, R81, R82: the delays of one record. A STEADY crosspoint stands at its target and holds no pending
delay; a MOVING one has not come to the end of its move, and its target is the pending delay, which is not
the delay moved to, or that delay itself. -/
def DelaysConsistent (p : Crosspoint) : Prop :=
  p.targetDelay ≤ 16383 ∧ p.activeDelay ≤ 16383 ∧
    match p.move with
    | none => p.pendingDelay = none ∧ p.activeDelay = p.targetDelay
    | some m =>
      m.dest ≤ 16383 ∧ m.elapsed < m.length ∧
        match p.pendingDelay with
        | none => p.targetDelay = m.dest
        | some q => q ≠ m.dest ∧ p.targetDelay = q

/-- `DelaysConsistent` at every crosspoint. -/
def PlanDelaysConsistent (s : State) : Prop := ∀ x, DelaysConsistent (s.crosspoint x)

/-- R2, R66: the gains and delays of the plan are sound. -/
def PlanRecordsSound (s : State) : Prop := PlanGainsInRange s ∧ PlanDelaysConsistent s

/-- R160: the notice queue holds at most 32 notices. -/
def QueueBounded (s : State) : Prop := s.queue.length ≤ 32

/-- R137 to R140, R142, R147, R149: the timer runs exactly in ARMED and expects phase 1 or 2; a fault cause and
an action are held exactly in FAULT; the selectors are on the alarm source exactly while the override cause is
not NONE; an ALCF in flight finds the state DISARMED, and a deferred auto-arm decision waits for one. -/
structure AlarmSound (s : State) : Prop where
  timer_armed : s.alarm.timer.isSome = true ↔ s.alarm.state = .armed
  phase : ∀ t, s.alarm.timer = some t → t.phase = 1 ∨ t.phase = 2
  cause_fault : s.alarm.faultCause.isSome = true ↔ s.alarm.state = .fault
  action_fault : s.alarm.actionTaken.isSome = true ↔ s.alarm.state = .fault
  selectors : ∀ z, (s.zone z).selector = .alarmSource ↔ s.alarm.cause ≠ .noCause
  alcf_disarmed : s.alcfInFlight = true → s.alarm.state = .disarmed
  deferred : s.alarm.autoArmDeferred = true → s.alcfInFlight = true

/-- R118, R123: the target of a store operation is INCOMPLETE. -/
def TargetIncomplete (store : Store) : StoreOp → Prop
  | .scst k _ => store.slots.get k = .incomplete
  | .scer k => store.slots.get k = .incomplete
  | .bldw _ => store.building = .incomplete
  | .alcf _ => store.alarm = .incomplete
  | .prot _ => store.guard = .incomplete

/-- The store operation in flight, if any, has an INCOMPLETE target. -/
def InFlightIncomplete (s : State) : Prop := ∀ op, s.operation = some op → TargetIncomplete s.store op

/-- R93: a join map is valid: an area joined into another is joined into one that is alone, and not into
itself. -/
def MapValid (joins : Area → Option Area) : Prop :=
  ∀ x y, joins x = some y → x ≠ y ∧ joins y = none

/-- The scenes a part holds: those of its VALID slots and of an SCST in flight. -/
def HoldsScene (s : State) (scene : Scene) : Prop :=
  (∃ k, s.slot k = .valid scene) ∨ (∃ k, s.operation = some (.scst k scene))

/-- R93: the live join map is valid, and so is the map of every scene held. -/
def MapsValid (s : State) : Prop :=
  MapValid (fun area => (s.area area).joinedInto) ∧
    ∀ scene, HoldsScene s scene → MapValid fun area => scene.joins.get (areaIndex area)

/-- R72: a zone's trim limits, with the default within them. -/
def LimitsSound (z : ZoneScene) : Prop :=
  -300 ≤ z.trimMin ∧ z.trimMin ≤ z.trimDefault ∧ z.trimDefault ≤ z.trimMax ∧ z.trimMax ≤ 60

/-- R72, R113: every zone's present trim lies within its limits, and every scene held has sound limits. -/
def TrimsWithinLimits (s : State) : Prop :=
  (∀ z, LimitsSound (s.zone z).scene ∧ (s.zone z).scene.trimMin ≤ (s.zone z).trim
      ∧ (s.zone z).trim ≤ (s.zone z).scene.trimMax) ∧
    ∀ scene, HoldsScene s scene → ∀ z, LimitsSound (scene.zones.get z)

/-- R28, R39: the noise-floor estimate, the rise count and the reversal count of every input. -/
def DetectorsInRange (s : State) : Prop :=
  ∀ i, -900 ≤ (s.input i).noiseFloor ∧ (s.input i).noiseFloor ≤ -300 ∧ (s.input i).rise ≤ 63
    ∧ (s.input i).reversals ≤ 255

/-- R43: the inputs of an area's list. -/
def listed (s : State) (area : Area) : List (Fin 24) := (s.area area).list.map fun e => e.input

/-- R43, R50: an input is an entry of the list of its effective area exactly while its gate is OPEN or HOLDING,
and only a GATED input is; no list names an input of another effective area, or an input twice; no list in use
is longer than its area's max open; a retained entry is HOLDING and the only entry of its list. -/
structure ListsSound (s : State) : Prop where
  entry_iff : ∀ i, s.isEntry i = true ↔ ((s.input i).gate = .opened ∨ (s.input i).gate = .holding)
  gated : ∀ i, s.isEntry i = true → (s.input i).settings.mode = .gated
  own_list : ∀ area i, i ∈ listed s area → s.inputArea i = some area
  no_repeats : ∀ area, (listed s area).Nodup
  within_max_open : ∀ area, s.inUse area = true →
    (s.area area).list.length ≤ (s.area area).settings.maxOpen
  sole_retained : ∀ area e, e ∈ (s.area area).list → e.retained = true →
    (s.area area).list.length = 1 ∧ s.holds e = true

/-- R36: every input's gate-gain target is the one that Table 2-3 gives. -/
def GateTargetsCurrent (s : State) : Prop := ∀ i, (s.input i).target = s.gateTargetOf i

/-- R58: every area's NOM attenuation is the one that its list's length gives. -/
def NomCurrent (s : State) : Prop := ∀ area, (s.area area).nom = s.nomOf area

/-- R68, R76: every live flag and every gain target is the one that the live setup gives. -/
def PlanComposed (s : State) : Prop :=
  ∀ x, (s.crosspoint x).live = s.liveOf x (s.crosspoint x).send
    ∧ (s.crosspoint x).targetGain = s.gainTargetOf x (s.crosspoint x)

/-- R17: every delay target and clamp flag is the one that the live geometry gives. -/
def DelayTargetsCurrent (s : State) : Prop :=
  ∀ x, (s.crosspoint x).targetDelay = min (s.delaySumOf x) 16383
    ∧ ((s.crosspoint x).clamp = true ↔ 16383 < s.delaySumOf x)

/-- Whether a command starts the part up or takes its power away (R135, R164, R131). -/
def StartsOver : Instr → Prop
  | .powerOn => True
  | .restart => True
  | .powerLoss => True
  | _ => False

end Sys2Proof.Safety
end

