-- ==== Sys2Proof/WellFormed.lean ====
section
/-! DEFINITION. Which commands can occur: the checks that a command's operands are those of the event it
names (log 20). The machine answers every command, well formed or not. -/

namespace Sys2Proof

open Sys2Proof.Machine

/-- Chapter 9, section 9.2: a frame's body holds 0 to 510 bytes. -/
def bodyWellFormed (body : List Byte) : Bool := decide (body.length ≤ 510)

/-- R27: a frame of audio is 48 samples, none beyond full scale. -/
def samplesWellFormed (samples : List Int) : Bool :=
  decide (samples.length = 48) && samples.all fun x => decide (x.natAbs ≤ Config.fullScale)

/-- R154: the bytes after a start byte end their frame, and no good frame completes among them. -/
def failingBytes (bytes : List Byte) : Bool :=
  endsFrame Receiver.started bytes && !completesGood Receiver.started bytes

/-- R152: the bytes that follow a start byte leave its frame unfinished. -/
def unfinishedBytes (bytes : List Byte) : Bool :=
  !endsFrame Receiver.started bytes

/-- Whether a command's operands are those of the event it names. -/
def Instr.wellFormed : Instr → Bool
  | .stat _ body => bodyWellFormed body
  | .notf _ body => bodyWellFormed body
  | .subs _ body => bodyWellFormed body
  | .inset _ body => bodyWellFormed body
  | .inget _ body => bodyWellFormed body
  | .znset _ body => bodyWellFormed body
  | .znget _ body => bodyWellFormed body
  | .zngeo _ body => bodyWellFormed body
  | .stset _ body => bodyWellFormed body
  | .stget _ body => bodyWellFormed body
  | .clim _ body => bodyWellFormed body
  | .send _ body => bodyWellFormed body
  | .xprd _ body => bodyWellFormed body
  | .snap _ body => bodyWellFormed body
  | .arset _ body => bodyWellFormed body
  | .olrd _ body => bodyWellFormed body
  | .join _ body => bodyWellFormed body
  | .splt _ body => bodyWellFormed body
  | .paus _ body => bodyWellFormed body
  | .rsum _ body => bodyWellFormed body
  | .pnset _ body => bodyWellFormed body
  | .pnget _ body => bodyWellFormed body
  | .scrc _ body => bodyWellFormed body
  | .scst _ body => bodyWellFormed body
  | .scer _ body => bodyWellFormed body
  | .scls _ body => bodyWellFormed body
  | .bldw _ body => bodyWellFormed body
  | .sten _ body => bodyWellFormed body
  | .stdi _ body => bodyWellFormed body
  | .prot _ body => bodyWellFormed body
  | .alcf _ body => bodyWellFormed body
  | .alrd _ body => bodyWellFormed body
  | .arm1 _ body => bodyWellFormed body
  | .arm2 _ body => bodyWellFormed body
  | .rsta _ body => bodyWellFormed body
  | .alon _ body => bodyWellFormed body
  | .alof _ body => bodyWellFormed body
  | .supv _ body => bodyWellFormed body
  | .unknownKind line kind _ body => !acceptedKind line kind && bodyWellFormed body
  | .checkFailed _ bytes => failingBytes bytes
  | .frameDuringReply _ => true
  | .framingError _ => true
  | .partialFrameGap _ => true
  | .inputFrame _ samples => samplesWellFormed samples
  | .holdTick _ => true
  | .holdExpiry _ => true
  | .planFrameStep audio =>
    samplesWellFormed audio.source && decide (audio.inputs.length = 24) && audio.inputs.all samplesWellFormed
  | .moveEnd _ => true
  | .storeCompletion => true
  | .panelSample _ _ _ _ => true
  | .keySwitchSample _ => true
  | .supervisionTick => true
  | .supervisionExpiry => true
  | .powerOn => true
  | .restart => true
  | .powerLoss => true
  | .frameBoundary => true
  | .replySent _ => true
  | .startByte _ following => unfinishedBytes following

end Sys2Proof
end

