-- ==== Sys2Proof/Certificates/Slice0/Obligations.lean ====
section
/-! DEFINITION. The statements for the provers. Each docstring names the rules of spec/ that it rests on. -/

open Sys2Proof Sys2Proof.Machine Sys2Proof.Safety

/-! ### The machine -/

/-- A step takes the command at the front of the queue and runs it on the state with the queue's rest. -/
def Obligations.StepRunsTheFrontCommand : Prop :=
  ∀ (s : State) (c : Instr) (rest : List Instr), s.pending = c :: rest →
    step s = exec c { s with pending := rest }

/-- Every command has a next state, and no command touches the queue of commands that wait. No rule of the
spec stops the part; in FAULT too "the part goes on working" (R145). -/
def Obligations.EveryCommandHasANextState : Prop :=
  ∀ (c : Instr) (s : State), ∃ t, exec c s = .next t ∧ t.pending = s.pending

/-! ### Lines (chapters 9 and 10) -/

/-- R152, R154, R166: a hunting receiver that is fed the frame of a kind, a tag and a body of at most 510 bytes
stays in that frame until its last byte, at which the frame is complete and its check right; the receiver then
hunts. What it has kept gives back the length, the kind, the tag and the body. -/
def Obligations.GoodFramesAreReceivedWhole : Prop :=
  ∀ (kind tag : Byte) (body : List Byte), body.length ≤ 510 →
    ∃ (first : List Byte) (last : Byte), frameOf kind tag body = first ++ [last]
      ∧ (∀ n, 0 < n → n ≤ first.length → (Receiver.hunting.bytes (first.take n)).state ≠ .hunt)
      ∧ (∀ n, n < first.length → (Receiver.hunting.bytes (first.take n)).completes (first.getD n 0) = none)
      ∧ Receiver.hunting.bytes (first ++ [last]) = Receiver.hunting
      ∧ ∃ kept, (Receiver.hunting.bytes first).completes last = some kept ∧ goodCheck kept = true
          ∧ keptLength kept = body.length + 2 ∧ kept.getD 2 0 = kind ∧ kept.getD 3 0 = tag
          ∧ (kept.drop 4).take body.length = body

/-- R155, R158, R167: a good frame that is taken has one reply, on its own line: of its kind plus 80h, with its tag, a
result of Table 9-2 and the status byte as the request leaves it; the other line is left as it was. While a reply is
pending on a line, a frame that arrives there is discarded whole: that its start byte came while the reply was pending
is how the model takes such a command (log 2). The reply is formed in the event of its request (log 26). -/
def Obligations.RequestsAreAnsweredOneAtATime : Prop :=
  ((∀ (s : State) (c : Instr) (line : Line) (kind tag : Byte) (body : List Byte),
       requestOf c = some (line, kind, tag, body) → (s.line line).reply ≠ none → exec c s = .next s)
     ∧ ∀ (s : State) (line : Line), exec (.frameDuringReply line) s = .next s)
  ∧ (∀ (s : State) (c : Instr) (line : Line) (kind tag : Byte) (body : List Byte),
     requestOf c = some (line, kind, tag, body) → Ready s line →
       ∃ (t : State) (result : Result) (data : List Byte), exec c s = .next t
         ∧ Replied t line kind tag result data ∧ ∀ other, other ≠ line → t.line other = s.line other)

/-- R156, R157, R176: a good frame of a kind its line does not accept is refused with UNKNOWN-KIND; one whose body
does not fit with BAD-LENGTH; one that fits and names a target out of range with BAD-TARGET; and one whose target is
in range but which holds a value outside its set with BAD-VALUE. Nothing but the line changes. The reply is formed in
the event of its request (log 26). -/
def Obligations.MalformedRequestsAreRefused : Prop :=
  (∀ (s : State) (line : Line) (kind tag : Byte) (body : List Byte),
      acceptedKind line kind = false → Ready s line →
        ∃ t, exec (.unknownKind line kind tag body) s = .next t ∧ t = s.setLine line (t.line line)
          ∧ Replied t line kind tag .unknownKind [])
    ∧ ∀ (s : State) (c : Instr) (line : Line) (kind tag : Byte) (body : List Byte),
        requestOf c = some (line, kind, tag, body) → acceptedKind line kind = true → Ready s line →
          (∀ k, c ≠ .unknownKind line k tag body) →
          (bodyFits kind body = false →
            ∃ t, exec c s = .next t ∧ t = s.setLine line (t.line line) ∧ Replied t line kind tag .badLength [])
          ∧ (bodyFits kind body = true → targetInRange kind body = false →
            ∃ t, exec c s = .next t ∧ t = s.setLine line (t.line line) ∧ Replied t line kind tag .badTarget [])
          ∧ (bodyFits kind body = true → targetInRange kind body = true → valuesInSet kind body = false →
            ∃ t, exec c s = .next t ∧ t = s.setLine line (t.line line) ∧ Replied t line kind tag .badValue [])

/-- R151 to R155: what the events of a line do to it. A framing error or a gap of more than 2 ms makes a receiver that
is collecting a frame hunt, and leaves a hunting one as it is. A start byte begins a frame for a hunting receiver and
is data to any other; bytes that complete no good frame move the receiver of their line alone. The bytes that
START_BYTE and CHECK_FAILED carry, fed to the receiver alike, are the model's reading of the two commands (log 21),
and so is a request command amid another frame (log 1). A good frame is taken as its request whatever commands its
bytes come in: also where an A5h amid it, its second check byte even, is the start byte of a command (log 21). A frame
that comes amid another is that frame's data, as its bytes are (log 1). A frame that fails at its check leaves the
receiver hunting, and so does an impossible length, after which the further bytes are examined as any others. Once its
last byte has been sent, a reply is no longer pending. -/
def Obligations.LineEventsTouchTheirLineAlone : Prop :=
  (∀ (s : State) (line : Line), Listening s line → (s.line line).receiver.state ≠ .hunt →
      exec (.framingError line) s = .next (s.setLine line ⟨Receiver.hunting, none⟩)
        ∧ exec (.partialFrameGap line) s = .next (s.setLine line ⟨Receiver.hunting, none⟩))
    ∧ (∀ (s : State) (line : Line), Ready s line →
      exec (.framingError line) s = .next s ∧ exec (.partialFrameGap line) s = .next s)
    ∧ (∀ (s : State) (line : Line) (following : List Byte), Ready s line →
      completesGood Receiver.started following = false →
        exec (.startByte line following) s
          = .next (s.setLine line ⟨Receiver.started.bytes following, none⟩))
    ∧ (∀ (s : State) (line : Line) (following : List Byte), Listening s line →
      completesGood (s.line line).receiver (0xA5 :: following) = false →
        exec (.startByte line following) s
          = .next (s.setLine line ⟨((s.line line).receiver.byte 0xA5).bytes following, none⟩))
    ∧ (∀ (s : State) (c : Instr) (line : Line) (kind tag : Byte) (body pre post : List Byte),
      requestOf c = some (line, kind, tag, body) → c.wellFormed = true →
      frameOf kind tag body = pre ++ 0xA5 :: post → s.powered = true →
      s.line line = ⟨Receiver.hunting.bytes pre, none⟩ →
        exec (.startByte line post) s = exec c (s.setLine line ⟨Receiver.hunting, none⟩))
    ∧ (∀ (s : State) (c : Instr) (line : Line) (kind tag : Byte) (body : List Byte),
      requestOf c = some (line, kind, tag, body) → Listening s line → (s.line line).receiver.state ≠ .hunt →
        exec c s = exec (.startByte line ((frameOf kind tag body).drop 1)) s)
    ∧ (∀ (s : State) (line : Line) (bytes : List Byte),
      exec (.checkFailed line bytes) s = exec (.startByte line bytes) s)
    ∧ (∀ (s : State) (line : Line) (bytes : List Byte), Ready s line → 2 ≤ keptLength bytes →
      keptLength bytes ≤ 512 → bytes.length = 4 + keptLength bytes → goodCheck bytes = false →
        exec (.checkFailed line bytes) s = .next (s.setLine line ⟨Receiver.hunting, none⟩))
    ∧ (∀ (s : State) (line : Line) (bytes : List Byte), Ready s line →
      (keptLength bytes < 2 ∨ 512 < keptLength bytes) → 2 ≤ bytes.length →
      completesGood Receiver.hunting (bytes.drop 2) = false →
        exec (.checkFailed line bytes) s
          = .next (s.setLine line ⟨Receiver.hunting.bytes (bytes.drop 2), none⟩))
    ∧ ∀ (s : State) (line : Line), s.powered = true →
      exec (.replySent line) s = .next (s.setLine line { s.line line with reply := none })

/-- R6, R63, R75, R92, R134, R138, R163: STAT, STGET, ZNGET, XPRD, OLRD, SCLS and ALRD report, and change nothing but
their line; a count out of range is taken at the nearer limit with CLAMPED. R26, R116: INGET reports an input and
clears its reversal count alone; PNGET reports a panel and clears its fault flag, its illegal count and its at-limit
flag alone. The data are those of the state as it stood: their lengths are those of Table 10-10, and each of their
fields, at its offset and in the code of Tables 10-4 to 10-11, holds the value of the state that the rule names. That
ZNGET's zone output is the selector as it is set, also before the frame boundary at which it takes effect, is the
model's reading (log 27). The reply is formed in the event of its request (log 26). -/
def Obligations.ReadingRequestsReportTheState : Prop :=
  (∀ (s : State) (tag : Byte), Ready s .control →
     (∃ t, exec (.stat tag []) s = .next t ∧ t = { s with control := t.control }
       ∧ Replied t .control 0x01 tag .done s.statData)
     ∧ (∀ n : Fin 32, ∃ t, exec (.stget tag (byteOf (n.val + 1))) s = .next t
       ∧ t = { s with control := t.control } ∧ Replied t .control 0x11 tag .done (s.stgetData n))
     ∧ (∀ z : Fin 16, ∃ t, exec (.znget tag (byteOf (z.val + 1))) s = .next t
       ∧ t = { s with control := t.control } ∧ Replied t .control 0x0B tag .done (s.zngetData z))
     ∧ (∀ (x : Fin 384) (count : Nat), count ≤ 255 →
       ∃ t, exec (.xprd tag (word16 x.val ++ byteOf count)) s = .next t
         ∧ t = { s with control := t.control }
         ∧ Replied t .control 0x19 tag (doneUnless (count < 1 ∨ 24 < count))
             (s.xprdData x (max 1 (min 24 count))))
     ∧ (∀ k : Area, ∃ t, exec (.olrd tag (areaByte (some k))) s = .next t
       ∧ t = { s with control := t.control } ∧ Replied t .control 0x21 tag .done (s.olrdData k))
     ∧ (∀ (k : Fin 64) (count : Nat), count ≤ 255 →
       ∃ t, exec (.scls tag (byteOf k.val ++ byteOf count)) s = .next t
         ∧ t = { s with control := t.control }
         ∧ Replied t .control 0x33 tag (doneUnless (count < 1 ∨ 16 < count))
             (s.sclsData k (max 1 (min 16 count))))
     ∧ (∃ t, exec (.alrd tag []) s = .next t ∧ t = { s with control := t.control }
       ∧ Replied t .control 0x39 tag .done s.alrdData)
     ∧ (∀ i : Fin 24, ∃ t, exec (.inget tag (byteOf (i.val + 1))) s = .next t
       ∧ t = { s.setInput i { s.input i with reversals := 0 } with control := t.control }
       ∧ Replied t .control 0x09 tag .done (s.ingetData i))
     ∧ ∀ n : Fin 8, ∃ t, exec (.pnget tag (byteOf (n.val + 1))) s = .next t
       ∧ t = { s.setPanel n { s.panel n with fault := false, illegal := 0, atLimit := false } with
               control := t.control }
       ∧ Replied t .control 0x29 tag .done (s.pngetData n))
  ∧ (∀ s : State,
     s.statData.length = 14
     ∧ s.alrdData.length = 44
     ∧ (∀ i, (s.ingetData i).length = 31)
     ∧ (∀ n, (s.pngetData n).length = 18)
     ∧ (∀ z, (s.zngetData z).length = 36 + (s.zone z).geometry.label.length)
     ∧ (∀ n, (s.stgetData n).length = 11 + (s.assigned n).length + (s.station n).label.length)
     ∧ (∀ x count, (s.xprdData x count).length = 1 + 21 * count)
     ∧ (∀ k, (s.olrdData k).length = 14 + 13 * (s.reportedEntries k).length)
     ∧ (∀ k count, (s.sclsData k count).length
         = 7 + ((listedSlots k count).map fun j => 4 + (s.slot j).label.length).sum)
     ∧ s.fetchNotices.data.length = 3 + 11 * (s.queue.take 8).length)
  ∧ ∀ s : State,
     (∀ d, d = s.statData →
       ByteIs d 0 Config.firmwareMajor.toNat ∧ ByteIs d 1 Config.firmwareMinor.toNat ∧ StampIs d 2 s.stamp
       ∧ WordIs d 6 s.used ∧ ByteIs d 8 s.reported.isSome.toNat
       ∧ (s.reported = none → WordIs d 9 0) ∧ (∀ tr, s.reported = some tr → WordIs d 9 tr)
       ∧ (s.operation = none → ByteIs d 11 0 ∧ ByteIs d 12 0)
       ∧ (∀ k scene, s.operation = some (.scst k scene) → ByteIs d 11 1 ∧ ByteIs d 12 k.val)
       ∧ (∀ k, s.operation = some (.scer k) → ByteIs d 11 2 ∧ ByteIs d 12 k.val)
       ∧ (∀ x, s.operation = some (.bldw x) → ByteIs d 11 3 ∧ ByteIs d 12 64)
       ∧ (∀ x, s.operation = some (.alcf x) → ByteIs d 11 4 ∧ ByteIs d 12 65)
       ∧ (∀ x, s.operation = some (.prot x) → ByteIs d 11 5 ∧ ByteIs d 12 66)
       ∧ ByteIs d 13 s.queue.length)
     ∧ (∀ n d, d = s.stgetData n → ∀ assigned : List (Fin 24),
       assigned = (List.finRange 24).filter (fun i => (s.input i).settings.station == some n) →
         ByteIs d 0 (s.station n).defined.toNat ∧ PointAt d 1 (s.station n).point
         ∧ WordIs d 7 ((List.finRange 384).countP fun y =>
             (s.input (inputOf y)).settings.station == some n && (s.crosspoint y).clamp)
         ∧ ByteIs d 9 assigned.length
         ∧ (∀ j i, assigned[j]? = some i → ByteIs d (10 + j) (i.val + 1))
         ∧ LabelIs d (10 + assigned.length) (s.station n).label)
     ∧ (∀ z d, d = s.zngetData z → ∀ count : (Crosspoint → Bool) → Nat,
       (∀ test, count test = (List.finRange 24).countP fun i => test (s.crosspoint (crosspointOf i z))) →
         ZoneSceneRecordAt d 0 (s.zone z).scene ∧ WordIs d 9 (s.zone z).trim
         ∧ ByteIs d 11 (areaCode (s.zoneArea z)) ∧ ByteIs d 12 (count fun p => p.live)
         ∧ ByteIs d 13 (count fun p => p.move.isSome) ∧ ByteIs d 14 (count fun p => p.pendingDelay.isSome)
         ∧ ByteIs d 15 (count fun p => p.clamp) ∧ ByteIs d 16 (sourceCode (s.zone z).selector)
         ∧ GeometryRecordAt d 17 (s.zone z).geometry)
     ∧ (∀ (x : Fin 384) count d, d = s.xprdData x count → ByteIs d 0 count
       ∧ ∀ (j : Nat) (y : Fin 384), j < count → y.val = (x.val + j) % 384 →
           CrosspointRecordAt d (1 + 21 * j) y.val (s.crosspoint y))
     ∧ (∀ k d, d = s.olrdData k → ∀ lead entries,
       lead = (s.area k).joinedInto.getD k →
       entries = (if (s.area k).joinedInto = none then (s.area k).list else []) →
         AreaRecordAt d 0 (s.area k).settings ∧ ByteIs d 7 (areaCode (some lead))
         ∧ ByteIs d 8 (s.area k).paused.toNat ∧ ByteIs d 9 (s.area lead).paused.toNat
         ∧ ByteIs d 10 (pauseModeCode (s.area lead).settings.pauseMode) ∧ ByteIs d 11 entries.length
         ∧ WordIs d 12 (if (s.area k).joinedInto = none then (s.area k).nom else 0)
         ∧ ∀ j e, entries[j]? = some e → EntryRecordAt d (14 + 13 * j) e (s.input e.input))
     ∧ (∀ k count d, d = s.sclsData k count →
       ByteIs d 0 count ∧ ByteIs d 1 (recordStateCode s.store.building)
       ∧ ByteIs d 2 (recordStateCode s.store.alarm) ∧ ByteIs d 3 (recordStateCode s.store.guard)
       ∧ ByteIs d 4 (protectionCode s.guard.level) ∧ ByteIs d 5 s.guard.lock.toNat
       ∧ (s.store.building = .incomplete → ByteIs d 6 255)
       ∧ (∀ b, s.store.building = .valid b → ByteIs d 6 (slotCode b.startupScene))
       ∧ ∀ (j : Nat) (y : Fin 64), j < count → y.val = (k.val + j) % 64 →
           SlotRecordAt d (7 + ((listedSlots k j).map fun i => 4 + (s.slot i).label.length).sum) s.guard.level y
             (s.slot y))
     ∧ (∀ d, d = s.alrdData →
       AlarmRecordAt d 0 s.alarm.settings ∧ ByteIs d 36 (recordStateCode s.store.alarm)
       ∧ ByteIs d 37 (alarmStateCode s.alarm.state) ∧ ByteIs d 38 (overrideCode s.alarm.cause)
       ∧ (s.alarm.timer = none → ByteIs d 39 0 ∧ WordIs d 40 0)
       ∧ (∀ left phase, s.alarm.timer = some ⟨left, phase⟩ → ByteIs d 39 phase ∧ WordIs d 40 left)
       ∧ (s.alarm.faultCause = none → ByteIs d 42 0)
       ∧ (∀ c, s.alarm.faultCause = some c → ByteIs d 42 (faultCauseCode c))
       ∧ (s.alarm.actionTaken = none → ByteIs d 43 255)
       ∧ ∀ c, s.alarm.actionTaken = some c → ByteIs d 43 (actionCode c))
     ∧ (∀ i d, d = s.ingetData i → ∀ x, x = s.input i →
       InputRecordAt d 0 x.settings ∧ ByteIs d 13 (areaCode (s.inputArea i)) ∧ WordIs d 14 x.level
       ∧ WordIs d 16 x.noiseFloor ∧ ByteIs d 18 x.rise ∧ WordIs d 19 (x.noiseFloor + x.settings.offset)
       ∧ WordIs d 21 (x.noiseFloor + x.settings.offset - 30) ∧ ByteIs d 23 (gateCode x.gate)
       ∧ ByteIs d 24 (if x.gate = .qualifying then x.qualifying else 0) ∧ WordIs d 25 x.gain
       ∧ WordIs d 27 x.target
       ∧ ByteIs d 29 (if x.gain = x.target then 0 else if x.gain < x.target then 1 else 2)
       ∧ ByteIs d 30 x.reversals)
     ∧ ∀ n d, d = s.pngetData n → ∀ p, p = s.panel n →
       PanelRecordAt d 0 p.scene p.building ∧ ByteIs d 7 (levelCode p.lineA.accepted)
       ∧ ByteIs d 8 (levelCode p.lineB.accepted) ∧ ByteIs d 9 (levelCode p.lineZ.accepted)
       ∧ ByteIs d 10 p.accumulator ∧ ByteIs d 11 (directionCode p.direction) ∧ ByteIs d 12 p.fault.toNat
       ∧ ByteIs d 13 p.illegal ∧ ByteIs d 14 p.atLimit.toNat ∧ ByteIs d 15 p.scene.zone.isSome.toNat
       ∧ (p.scene.zone = none → WordIs d 16 0)
       ∧ ∀ z, p.scene.zone = some z → WordIs d 16 (s.zone z).trim

/-- R161, R170: NOTF removes up to 8 notices from the head of the queue and returns them, oldest first, with the
number returned, the number left and the overflow indicator as it stood, which it then clears. The reply is formed in
the event of its request (log 26). -/
def Obligations.NotfReturnsTheOldestNotices : Prop :=
  ∀ (s : State) (tag : Byte), Ready s .control →
    ∃ t, exec (.notf tag []) s = .next t
      ∧ t = { s with queue := s.queue.drop 8, overflow := false, control := t.control }
      ∧ Replied t .control 0x02 tag .done
          (byteOf (min 8 s.queue.length) ++ byteOf (s.queue.length - 8 : Nat) ++ flagByte s.overflow
            ++ (s.queue.take 8).flatMap fun n =>
                byteOf (noticeCode n.kind) ++ word32 n.stamp.toNat ++ word16 n.subject ++ word32 n.value)

/-- R162: SUBS replaces the whole set of subscribed kinds with the one it carries, and its reply lists the set in
ascending order of code. The reply is formed in the event of its request (log 26). -/
def Obligations.SubsReplacesTheSubscriptions : Prop :=
  ∀ (s : State) (tag : Byte) (codes : List Byte), Ready s .control → codes.length ≤ 13 →
    (∀ b ∈ codes, 1 ≤ b.toNat ∧ b.toNat ≤ 13) →
      ∃ t, exec (.subs tag codes) s = .next t
        ∧ t = { s with subscribed := t.subscribed, control := t.control }
        ∧ (∀ k, k ∈ t.subscribed ↔ ∃ b ∈ codes, b.toNat = noticeCode k)
        ∧ Replied t .control 0x03 tag .done
            ((NoticeKind.all.filter fun k => t.subscribed.contains k).flatMap fun k => byteOf (noticeCode k))

/-- R135, R164: RSTA is refused with BUSY while a store operation is in flight, else with ALERT while the override
cause is ALARM, and else accepted. In a part with power, once the reply of an accepted RSTA has been sent, RESTART
completes, with the start-up of a power-on: the stores stand, both receivers hunt and no reply is pending on either
line, the frame stamp is 0, the subscriptions are the default ones, the queue and the overflow indicator are those of
the start-up's own notices, and neither an alarm nor an override is left. Until then, and without an accepted RSTA,
RESTART is not due and changes nothing (log 6). The reply is formed in the event of its request (log 26). -/
def Obligations.RestartFollowsAnAcceptedRsta : Prop :=
  (∀ (s : State) (tag : Byte), Ready s .control →
      (s.operation ≠ none →
        ∃ t, exec (.rsta tag []) s = .next t ∧ t = { s with control := t.control }
          ∧ Replied t .control 0x3F tag .busy [])
      ∧ (s.operation = none → s.alarm.cause = .alarm →
        ∃ t, exec (.rsta tag []) s = .next t ∧ t = { s with control := t.control }
          ∧ Replied t .control 0x3F tag .alert [])
      ∧ (s.operation = none → s.alarm.cause ≠ .alarm →
        ∃ t, exec (.rsta tag []) s = .next t
          ∧ t = { s with restartAccepted := true, control := t.control }
          ∧ Replied t .control 0x3F tag .done []))
    ∧ ∀ s : State, s.powered = true →
      (s.restartAccepted = true → s.control.reply = none →
        exec .restart s = exec .powerOn s
        ∧ ∃ t, exec .restart s = .next t
          ∧ t.powered = true ∧ t.store = s.store ∧ t.pending = s.pending
          ∧ t.control = ⟨Receiver.hunting, none⟩ ∧ t.safety = ⟨Receiver.hunting, none⟩
          ∧ t.stamp = 0 ∧ t.restartAccepted = false ∧ t.latch = false ∧ t.operation = none
          ∧ (∀ k, k ∈ t.subscribed ↔ k ≠ .listChange)
          ∧ (∀ recalled, (match recalled with
                | some k => ∃ scene, StartsFrom s.store k scene
                | none => ∀ k scene, ¬ StartsFrom s.store k scene) →
              t.queue = ((startupNotices s.store t recalled).map fun n => ⟨n.1, 0, n.2.1, n.2.2⟩).take 32
                ∧ t.overflow = decide (32 < (startupNotices s.store t recalled).length))
          ∧ t.alarm.state = .disarmed ∧ t.alarm.cause = .noCause
          ∧ ∀ z, (t.zone z).selector = .crosspointSum)
      ∧ ((s.restartAccepted = false ∨ s.control.reply ≠ none) → exec .restart s = .next s)

/-- R10, R42, R65, R67, R106, R113, R116, R124, R132, R133, R135, R136, R139, R151, R159 and R162: what a power-on
leaves, from any state. The stored contents stand; everything else is made from them. The scene of the VALID slot that
a VALID building record names is in force, and otherwise the factory live setup. An INCOMPLETE building or alarm record
is stood in for by the factory one, and an INCOMPLETE guard record by FULL with the lock bit clear. The queue holds the
first 32 of: RECORD-INCOMPLETE for each such record, DELAY-CLAMPED in ascending index, SCENE-RECALLED with value 3, and
STARTUP with the slot recalled or -1. From the factory stored contents it leaves the state that the model takes as
reset (log 3), with whatever commands wait. -/
def Obligations.PowerOnStartsThePartFromItsStores : Prop :=
  (∀ s : State, ∃ t, exec .powerOn s = .next t
     ∧ t.powered = true ∧ t.store = s.store ∧ t.pending = s.pending
     ∧ t.control = ⟨Receiver.hunting, none⟩ ∧ t.safety = ⟨Receiver.hunting, none⟩
     ∧ t.stamp = 0 ∧ t.restartAccepted = false ∧ t.latch = false ∧ t.operation = none
     ∧ (∀ k, k ∈ t.subscribed ↔ k ≠ .listChange)
     ∧ (∀ recalled, (match recalled with
           | some k => ∃ scene, StartsFrom s.store k scene
           | none => ∀ k scene, ¬ StartsFrom s.store k scene) →
         t.queue = ((startupNotices s.store t recalled).map fun n => ⟨n.1, 0, n.2.1, n.2.2⟩).take 32
           ∧ t.overflow = decide (32 < (startupNotices s.store t recalled).length))
     ∧ (∀ k scene, StartsFrom s.store k scene → t.liveSetup scene.label = scene)
     ∧ ((∀ k scene, ¬ StartsFrom s.store k scene) → t.liveSetup [] = Scene.factory)
     ∧ PlanComposed t ∧ GateTargetsCurrent t ∧ DelayTargetsCurrent t
     ∧ t.alarm.state = .disarmed ∧ t.alarm.cause = .noCause ∧ t.alarm.timer = none
     ∧ t.alarm.faultCause = none ∧ t.alarm.actionTaken = none
     ∧ t.reported = none ∧ t.used = t.defaultTemp ∧ t.key.accepted = none
     ∧ (∀ b, s.store.building = .valid b → t.stations = b.stations ∧ t.defaultTemp = b.defaultTemp
         ∧ t.climateStep = b.climateStep ∧ (∀ z, (t.zone z).geometry = b.zones.get z)
         ∧ ∀ n, (t.panel n).building = b.panels.get n)
     ∧ (s.store.building = .incomplete → (∀ n, t.station n = ⟨false, [], ⟨0, 0, 0⟩⟩) ∧ t.defaultTemp = 150
         ∧ t.climateStep = 5 ∧ (∀ z, (t.zone z).geometry = ⟨[], ⟨0, 0, 0⟩, ⟨0, 0, 0⟩, 576, 0, 22, 2⟩)
         ∧ ∀ n, (t.panel n).building = ⟨4, 5, 4, 30⟩)
     ∧ (∀ g, s.store.guard = .valid g → t.guard = g)
     ∧ (s.store.guard = .incomplete → t.guard = ⟨.full, false⟩)
     ∧ (∀ x, s.store.alarm = .valid x → t.alarm.settings = x)
     ∧ (s.store.alarm = .incomplete → (∀ z, t.alarm.settings.levels.get z = 0) ∧ t.alarm.settings.code = 30
         ∧ t.alarm.settings.action = .report ∧ t.alarm.settings.fallback = none
         ∧ t.alarm.settings.autoArm = false)
     ∧ (∀ k, (t.area k).list = [] ∧ (t.area k).paused = false ∧ (t.area k).nom = 0)
     ∧ (∀ i, (t.input i).gate = .closed ∧ (t.input i).noiseFloor = -600 ∧ (t.input i).level = -1200
         ∧ (t.input i).gain = -1000 ∧ (t.input i).reversals = 0 ∧ (t.input i).memory = [])
     ∧ (∀ x, (t.crosspoint x).activeGain = -1000 ∧ (t.crosspoint x).move = none
         ∧ (t.crosspoint x).pendingDelay = none
         ∧ (t.crosspoint x).activeDelay = (t.crosspoint x).targetDelay)
     ∧ (∀ z, (t.zone z).trim = (t.zone z).scene.trimDefault ∧ (t.zone z).selector = .crosspointSum
         ∧ (t.zone z).selected = .crosspointSum)
     ∧ (∀ n, (t.panel n).lineA.accepted = none ∧ (t.panel n).reference = none
         ∧ (t.panel n).accumulator = 0 ∧ (t.panel n).direction = .noDirection ∧ (t.panel n).fault = false
         ∧ (t.panel n).illegal = 0 ∧ (t.panel n).atLimit = false))
  ∧ (∀ s : State, s.store = Store.factory → exec .powerOn s = .next { State.reset with pending := s.pending })

/-- R131, R135: a loss of power keeps the stored contents, and with a store operation in flight they are those
that its acceptance left. What an unpowered part does with every other command, nothing until the next power-on,
is the model's choice (log 3). -/
def Obligations.PowerLossKeepsOnlyTheStores : Prop :=
  (∀ s : State, ∃ t, exec .powerLoss s = .next t ∧ t.powered = false ∧ t.store = s.store
      ∧ t.pending = s.pending ∧ t.operation = none ∧ t.latch = false ∧ t.queue = []
      ∧ t.control.reply = none ∧ t.safety.reply = none ∧ exec .powerOn t = exec .powerOn s)
    ∧ ∀ (s : State) (c : Instr), s.powered = false → c ≠ .powerOn → c ≠ .powerLoss → exec c s = .next s

/-- R137, R147, R149, R159: a frame boundary takes the stamp up by 1, wrapping to 0, and puts every zone's
selector and alarm level into effect; it lets every list and entry take a hold tick again (log 7), and every input's
frame is one to come (log 14). No other command but a start-up or a power loss changes the stamp. -/
def Obligations.FrameBoundariesCountTheStamp : Prop :=
  (∀ s : State, s.powered = true →
      ∃ t, exec .frameBoundary s = .next t ∧ t.stamp.toNat = (s.stamp.toNat + 1) % 2 ^ 32
        ∧ t = { s with stamp := t.stamp, inputs := t.inputs, areas := t.areas, zones := t.zones }
        ∧ (∀ i, t.input i = { s.input i with frameTaken := false })
        ∧ (∀ z, t.zone z = { s.zone z with selected := (s.zone z).selector,
                                           levelInEffect := s.alarm.settings.levels.get z })
        ∧ ∀ k, t.area k = { s.area k with tickTaken := false,
                                          list := (s.area k).list.map fun e => { e with ticked := false } })
    ∧ ∀ (s t : State) (c : Instr), exec c s = .next t → ¬ StartsOver c → c ≠ .frameBoundary →
        t.stamp = s.stamp

/-! ### Notices (R160) -/

/-- R160: a raised notice is appended at the tail when it is subscribed and fewer than 32 wait, discarded with the
overflow indicator set when 32 wait, and discarded when it is not subscribed. The notices that wait stay in their
order through every command but a start-up or a power loss, save that a NOTF that is answered takes up to 8 from the
head; and every step keeps the queue at 32 notices or fewer. The reply is formed in the event of its request (log 26).
-/
def Obligations.NoticesWaitInOrderUntilFetched : Prop :=
  ((∀ (s : State) (kind : NoticeKind) (subject : Nat) (value : Int),
       (kind ∈ s.subscribed → s.queue.length < 32 →
         s.raise kind subject value = { s with queue := s.queue ++ [⟨kind, s.stamp, subject, value⟩] })
       ∧ (kind ∈ s.subscribed → 32 ≤ s.queue.length →
         s.raise kind subject value = { s with overflow := true })
       ∧ (kind ∉ s.subscribed → s.raise kind subject value = s))
     ∧ ∀ (s t : State) (c : Instr), exec c s = .next t → ¬ StartsOver c →
         s.queue <+: t.queue
           ∨ (t.queue = s.queue.drop 8 ∧ s.control.reply = none
               ∧ ∃ tag data, Replied t .control 0x02 tag .done data))
  ∧ (∀ s t : State, QueueBounded s → step s = .next t → QueueBounded t)

/-! ### Geometry (chapter 1) -/

/-- R1: the crosspoint of input i and zone z has the index (i − 1) × 16 + (z − 1); the index names its input and
its zone. -/
def Obligations.CrosspointIndexNamesItsInputAndZone : Prop :=
  (∀ (i : Fin 24) (z : Fin 16), (crosspointOf i z).val = ((i.val + 1) - 1) * 16 + ((z.val + 1) - 1)
      ∧ inputOf (crosspointOf i z) = i ∧ zoneOf (crosspointOf i z) = z)
    ∧ ∀ x : Fin 384, crosspointOf (inputOf x) (zoneOf x) = x

/-- R14: the distance of two points is f or f + 1, with f the largest whole number whose square does not exceed
the sum S of the squared differences: f + 1 exactly when S − f² is greater than f. -/
def Obligations.DistanceIsTheRoundedRoot : Prop :=
  ∀ p q : Point, p.x ≤ 32767 → p.y ≤ 32767 → p.z ≤ 32767 → q.x ≤ 32767 → q.y ≤ 32767 → q.z ≤ 32767 →
    ∃ f S : Nat, (S : Int) = ((p.x : Int) - q.x) ^ 2 + ((p.y : Int) - q.y) ^ 2 + ((p.z : Int) - q.z) ^ 2
      ∧ f ^ 2 ≤ S ∧ S < (f + 1) ^ 2 ∧ distance p q = if f < S - f ^ 2 then f + 1 else f

/-- R15: the speed of sound is 33131 plus 606 × Tu ÷ 100 rounded to the nearest whole number, a half away from
zero. -/
def Obligations.SpeedOfSoundIsRoundedAwayFromZero : Prop :=
  ∀ tu : Int, ∃ r : Int, speedOfSound tu = 33131 + r
    ∧ -50 ≤ 100 * r - 606 * tu ∧ 100 * r - 606 * tu ≤ 50
    ∧ (100 * r - 606 * tu = 50 → 0 < tu) ∧ (100 * r - 606 * tu = -50 → tu < 0)

/-- R4, R16, R17: the sum from which a delay target is taken. An unplaced input (S0, or an undefined station) and
a path difference of 0 or less give a geometric term of 0; otherwise it is the difference × 48000 ÷ c, to the
nearest whole number, a half up. The zone's precedence offset and extra delay are added. -/
def Obligations.DelaySumIsTheRoundedPathDifference : Prop :=
  ∀ (s : State) (x : Fin 384), -200 ≤ s.used → s.used ≤ 450 →
    ∃ g : Nat, s.delaySumOf x = g + (s.zone (zoneOf x)).geometry.precedence + (s.zone (zoneOf x)).geometry.extra
      ∧ ((s.input (inputOf x)).settings.station = none → g = 0)
      ∧ ∀ n, (s.input (inputOf x)).settings.station = some n →
          ((s.station n).defined = false → g = 0)
          ∧ ((s.station n).defined = true → ∀ d1 d2 : Nat,
              d1 = distance (s.station n).point (s.zone (zoneOf x)).geometry.listener →
              d2 = distance (s.zone (zoneOf x)).geometry.speaker (s.zone (zoneOf x)).geometry.listener →
              (d1 ≤ d2 → g = 0)
              ∧ (d2 < d1 → ∃ c : Nat, (c : Int) = speedOfSound s.used
                  ∧ c * (2 * g) ≤ 2 * ((d1 - d2) * 48000) + c ∧ 2 * ((d1 - d2) * 48000) + c < c * (2 * g + 2)))

/-- R17, R19, R20, R22: every step keeps every delay target and clamp flag what the live geometry gives, in a
plan whose records are sound (the statement PlanRecordsStaySound). -/
def Obligations.DelayTargetsStayCurrent : Prop :=
  ∀ s t : State, PlanRecordsSound s → DelayTargetsCurrent s → step s = .next t → DelayTargetsCurrent t

/-- R5, R18, R20, R22, R80 to R82: an accepted STSET sets the station, and hands new delay targets to the crosspoints
of the inputs that name it, if its defined flag or a coordinate differs, with a DELAY-CLAMPED notice for each clamped
one in ascending index; no other crosspoint and no gain changes. A target starts a move at an audible STEADY
crosspoint, is taken at once by an inaudible one or where the move time is 0, and waits at a MOVING one as its pending
delay, unless the move goes to it. The reply is formed in the event of its request (log 26). -/
def Obligations.StsetSetsAStation : Prop :=
  ∀ (s : State) (tag : Byte) (n : Fin 32) (x : Station), Ready s .control → StationSent x →
    ∃ t, exec (.stset tag (byteOf (n.val + 1) ++ flagByte x.defined ++ x.point.bytes ++ labelBytes x.label)) s
        = .next t
      ∧ t = { s with stations := t.stations, crosspoints := t.crosspoints, queue := t.queue,
                     overflow := t.overflow, control := t.control }
      ∧ t.station n = stationTaken x ∧ (∀ m, m ≠ n → t.station m = s.station m)
      ∧ Replied t .control 0x10 tag (doneUnless (stationTaken x ≠ x)) []
      ∧ (∀ y, (s.input (inputOf y)).settings.station ≠ some n → t.crosspoint y = s.crosspoint y)
      ∧ (∀ y, SameGains (s.crosspoint y) (t.crosspoint y))
      ∧ ((s.station n).defined = x.defined → (s.station n).point = pointTaken x.point →
          t.crosspoints = s.crosspoints ∧ t.queue = s.queue ∧ t.overflow = s.overflow)
      ∧ (((s.station n).defined ≠ x.defined ∨ (s.station n).point ≠ pointTaken x.point) →
          (∀ y, (s.input (inputOf y)).settings.station = some n →
            Retimed t y (s.crosspoint y) (t.crosspoint y))
          ∧ Notified s t (clampedNotices t fun y => (s.input (inputOf y)).settings.station == some n))

/-- R8, R9, R18, R20, R22, R80 to R82: an accepted ZNGEO sets the zone's geometry, and hands new delay targets to its
24 crosspoints if a point, the precedence offset or the extra delay differs, with a DELAY-CLAMPED notice for each
clamped one in ascending index; no other crosspoint and no gain changes. A target starts a move of the duration of the
move time code now in force, is taken at once, or becomes the pending delay, as at a STSET. The reply is formed in the
event of its request (log 26). -/
def Obligations.ZngeoSetsAZonesGeometry : Prop :=
  ∀ (s : State) (tag : Byte) (z : Fin 16) (x : ZoneGeometry), Ready s .control → GeometrySent x →
    ∃ t, exec (.zngeo tag (byteOf (z.val + 1) ++ x.bytes)) s = .next t
      ∧ t = { s with zones := t.zones, crosspoints := t.crosspoints, queue := t.queue,
                     overflow := t.overflow, control := t.control }
      ∧ t.zone z = { s.zone z with geometry := geometryTaken x } ∧ (∀ w, w ≠ z → t.zone w = s.zone w)
      ∧ Replied t .control 0x0C tag (doneUnless (geometryTaken x ≠ x)) []
      ∧ (∀ y, zoneOf y ≠ z → t.crosspoint y = s.crosspoint y)
      ∧ (∀ y, SameGains (s.crosspoint y) (t.crosspoint y))
      ∧ ((s.zone z).geometry.speaker = pointTaken x.speaker →
          (s.zone z).geometry.listener = pointTaken x.listener →
          (s.zone z).geometry.precedence = min 1023 x.precedence →
          (s.zone z).geometry.extra = min 4095 x.extra →
          t.crosspoints = s.crosspoints ∧ t.queue = s.queue ∧ t.overflow = s.overflow)
      ∧ (((s.zone z).geometry.speaker ≠ pointTaken x.speaker
            ∨ (s.zone z).geometry.listener ≠ pointTaken x.listener
            ∨ (s.zone z).geometry.precedence ≠ min 1023 x.precedence
            ∨ (s.zone z).geometry.extra ≠ min 4095 x.extra) →
          (∀ y, zoneOf y = z → Retimed t y (s.crosspoint y) (t.crosspoint y))
          ∧ Notified s t (clampedNotices t fun y => zoneOf y == z))

/-- R11 to R13, R18, R20, R21, R80 to R82: a CLIM sets the climate settings if it carries them, and takes a report if
it carries one: the reported temperature, and, where it differs from the used temperature by the climate step then
live or more, the used temperature, with a delay target that arrives at every crosspoint (a move, a snap or a pending
delay) and its clamp flag, a CLIMATE-STEP notice, and then a DELAY-CLAMPED notice for each clamped crosspoint in
ascending index. The reply is formed in the event of its request (log 26). -/
def Obligations.ClimTakesSettingsAndThenTheReport : Prop :=
  ∀ (s : State) (tag : Byte) (withReport withSettings : Bool) (report default : Int) (climateStep : Nat),
    Ready s .control → Signed16 report → Signed16 default → Unsigned8 climateStep →
      ∃ t, exec (.clim tag (byteOf ((if withReport then 1 else 0) + (if withSettings then 2 else 0))
              ++ word16 report ++ word16 default ++ byteOf climateStep)) s = .next t
        ∧ t = { s with reported := t.reported, used := t.used, defaultTemp := t.defaultTemp,
                       climateStep := t.climateStep, crosspoints := t.crosspoints, queue := t.queue,
                       overflow := t.overflow, control := t.control }
        ∧ Replied t .control 0x12 tag
            (doneUnless ((withReport = true ∧ temperatureTaken report ≠ report)
              ∨ (withSettings = true
                  ∧ (temperatureTaken default ≠ default ∨ max 1 (min 50 climateStep) ≠ climateStep)))) []
        ∧ (withSettings = true →
            t.defaultTemp = temperatureTaken default ∧ t.climateStep = max 1 (min 50 climateStep))
        ∧ (withSettings = false → t.defaultTemp = s.defaultTemp ∧ t.climateStep = s.climateStep)
        ∧ (withReport = false → t.reported = s.reported ∧ t.used = s.used ∧ t.crosspoints = s.crosspoints
            ∧ t.queue = s.queue ∧ t.overflow = s.overflow)
        ∧ (withReport = true → t.reported = some (temperatureTaken report)
            ∧ ((temperatureTaken report - s.used).natAbs < t.climateStep →
                t.used = s.used ∧ t.crosspoints = s.crosspoints ∧ t.queue = s.queue ∧ t.overflow = s.overflow)
            ∧ (t.climateStep ≤ (temperatureTaken report - s.used).natAbs →
                t.used = temperatureTaken report
                ∧ (∀ y, SameGains (s.crosspoint y) (t.crosspoint y)
                    ∧ Retimed t y (s.crosspoint y) (t.crosspoint y))
                ∧ Notified s t ((.climateStep, 0, temperatureTaken report) :: clampedNotices t fun _ => true)))

/-! ### Inputs (chapter 2) -/

/-- R20, R24, R25, R39, R173: an accepted INSET sets the input's settings, and no other input changes. One that
changes no field has no consequence. A change of area, or of mode away from GATED, closes the gate, clears its count,
and withdraws the input's entry with a LIST-CHANGE; any other keeps the gate, and an entry takes a new priority. A
change of station hands new delay targets to the input's 16 crosspoints, each a move, a snap or a pending delay (R80
to R82), with their DELAY-CLAMPED notices in ascending index. The gate-gain target is the one of the settings now in
force, and counts as a reversal where it turns a ramping gate gain. The level, the noise-floor estimate, the rise
count, the gate gain and the delay memory of every input stand, and of every area all but its list and its NOM
attenuation. The lists are sound (ListsAndMapsStaySound) where their entries are spoken of. The reply is formed in the
event of its request (log 26). -/
def Obligations.InsetSetsAnInput : Prop :=
  ∀ (s : State) (tag : Byte) (i : Fin 24) (x : InputSettings), Ready s .control → InputSent x →
    ∃ t, exec (.inset tag (byteOf (i.val + 1) ++ x.bytes)) s = .next t
      ∧ t = { s with inputs := t.inputs, areas := t.areas, crosspoints := t.crosspoints, queue := t.queue,
                     overflow := t.overflow, control := t.control }
      ∧ Replied t .control 0x08 tag (doneUnless (inputTaken x ≠ x)) []
      ∧ (t.input i).settings = inputTaken x
      ∧ (∀ j, j ≠ i → t.input j = s.input j)
      ∧ SameSignal (s.input i) (t.input i)
      ∧ (∀ k, t.area k = { s.area k with list := (t.area k).list, nom := (t.area k).nom })
      ∧ (∀ y, inputOf y ≠ i → (t.crosspoint y).live = (s.crosspoint y).live)
      ∧ ((s.input i).settings = inputTaken x → t = { s with control := t.control })
      ∧ ((s.input i).settings ≠ inputTaken x → (t.input i).target = t.gateTargetOf i)
      ∧ ReversalCounted (s.input i) (t.input i)
      ∧ (∀ y, (t.crosspoint y).activeGain = (s.crosspoint y).activeGain
          ∧ (t.crosspoint y).send = (s.crosspoint y).send
          ∧ ((inputOf y ≠ i ∨ (s.input i).settings.station = x.station) →
              SameDelays (s.crosspoint y) (t.crosspoint y) ∧ (t.crosspoint y).clamp = (s.crosspoint y).clamp)
          ∧ (inputOf y = i → (s.input i).settings.station ≠ x.station →
              Retimed t y (s.crosspoint y) (t.crosspoint y)))
      ∧ ∀ leaves : Prop,
          (leaves ↔ ((s.input i).settings.area ≠ x.area
            ∨ ((s.input i).settings.mode = .gated ∧ x.mode ≠ .gated))) →
          (leaves → (t.input i).gate = .closed ∧ (t.input i).qualifying = 0)
          ∧ (¬ leaves → (t.input i).gate = (s.input i).gate ∧ (t.input i).qualifying = (s.input i).qualifying)
          ∧ (ListsSound s →
              (∀ k, s.inputArea i = some k → s.isEntry i = true →
                (leaves → (t.area k).list = (s.area k).list.eraseP fun e => e.input == i)
                ∧ (¬ leaves → (s.input i).settings.priority = min 3 x.priority →
                    (t.area k).list = (s.area k).list)
                ∧ (¬ leaves → (s.input i).settings.priority ≠ min 3 x.priority →
                    (t.area k).list = (s.area k).list.map fun e =>
                      if e.input = i then { e with priority := min 3 x.priority } else e))
              ∧ (∀ k, (s.inputArea i ≠ some k ∨ s.isEntry i = false) → (t.area k).list = (s.area k).list)
              ∧ ∀ withdrawal : List (NoticeKind × Nat × Int),
                  (∀ k, leaves → s.isEntry i = true → s.inputArea i = some k →
                    withdrawal = [(NoticeKind.listChange, i.val + 1,
                      ((areaNumber k * 65536 + 4 * 256 + ((s.area k).list.length - 1 : Nat) : Nat) : Int))]) →
                  (¬ (leaves ∧ s.isEntry i = true) → withdrawal = []) →
                  Notified s t (withdrawal ++ (if (s.input i).settings.station = x.station then []
                    else clampedNotices t fun y => inputOf y == i)))

/-- R27: the frame level of 48 samples within full scale, under a trim. With m the mean of the squares of the samples
scaled by ten to the power trim/200, full scale counted as 1 and a scaled sample beyond it taken at full scale, the
level −j is 100 × log10 of m rounded down and not below −1200, with no other rounding: m is at least ten to the power
−j/100 unless j is 1200, and, above level 0, less than ten to the power (1 − j)/100. Samples are whole numbers with
full scale at 2^31 (log 11). -/
def Obligations.FrameLevelIsTheFlooredLogarithm : Prop :=
  ∀ (trim : Int) (samples : List Int), -200 ≤ trim → trim ≤ 200 → samples.length = 48 →
    (∀ x ∈ samples, x.natAbs ≤ Config.fullScale) →
    ∀ m : ℝ, m = (samples.map fun x =>
        (min 1 ((x.natAbs : ℝ) * (10 : ℝ) ^ ((trim : ℝ) / 200) / Config.fullScale)) ^ 2).sum / 48 →
      ∃ j : Nat, frameLevel trim samples = -(j : Int) ∧ j ≤ 1200
        ∧ (j < 1200 → (10 : ℝ) ^ (-(j : ℝ) / 100) ≤ m)
        ∧ (0 < j → m < (10 : ℝ) ^ ((1 - (j : ℝ)) / 100))

/-- R27 to R30, R35, R37 to R39, R89: one frame at an Input Channel. Its level is that of the frame under the input's
trim, over samples in the model's form (log 11). Its trimmed samples, rounded freely (log 12), go to the head of a
delay memory of 16431 samples: the frame's 48 and 16383 before its first, so that its every sample has at least the
16383 before it, and the frame counts as taken (log 14). In a FREEZE pause, and for an input that is not GATED, the
gate and the lists stand. The noise-floor estimate follows the frame's level where the frame began CLOSED, QUALIFYING
or DENIED outside a FREEZE pause, and stands otherwise. The gate gain takes one step toward the target as the frame
leaves it. No other input's settings or signal change. -/
def Obligations.InputFramesTakeTheirFiveStages : Prop :=
  ∀ (s : State) (i : Fin 24) (samples : List Int), s.powered = true →
    ∃ t, exec (.inputFrame i samples) s = .next t
      ∧ t = { s with inputs := t.inputs, areas := t.areas, crosspoints := t.crosspoints, queue := t.queue,
                     overflow := t.overflow }
      ∧ (∀ j, (t.input j).settings = (s.input j).settings)
      ∧ (∀ j, j ≠ i → SameSignal (s.input j) (t.input j))
      ∧ (t.input i).level = frameLevel (s.input i).settings.trim samples ∧ (t.input i).frameTaken = true
      ∧ (t.input i).memory
          = ((samples.map (scaleSample (s.input i).settings.trim)).reverse ++ (s.input i).memory).take 16431
      ∧ (s.frozen i = true ∨ (s.input i).settings.mode ≠ .gated →
          (t.input i).gate = (s.input i).gate ∧ (t.input i).qualifying = (s.input i).qualifying
            ∧ t.areas = s.areas ∧ t.queue = s.queue)
      ∧ ((s.frozen i = true ∨ (s.input i).gate = .opened ∨ (s.input i).gate = .holding) →
          (t.input i).noiseFloor = (s.input i).noiseFloor ∧ (t.input i).rise = (s.input i).rise)
      ∧ (s.frozen i = false → (s.input i).gate ≠ .opened → (s.input i).gate ≠ .holding →
          ((t.input i).level < (s.input i).noiseFloor →
            (t.input i).noiseFloor = max (t.input i).level (-900) ∧ (t.input i).rise = 0)
          ∧ ((t.input i).level = (s.input i).noiseFloor →
            (t.input i).noiseFloor = (s.input i).noiseFloor ∧ (t.input i).rise = 0)
          ∧ ((s.input i).noiseFloor < (t.input i).level → (s.input i).rise + 1 < 64 →
            (t.input i).noiseFloor = (s.input i).noiseFloor ∧ (t.input i).rise = (s.input i).rise + 1)
          ∧ ((s.input i).noiseFloor < (t.input i).level → 64 ≤ (s.input i).rise + 1 →
            (t.input i).noiseFloor = min ((s.input i).noiseFloor + 1) (-300) ∧ (t.input i).rise = 0))
      ∧ (ListsSound s → ∀ j, ReversalCounted (s.input j) (t.input j))
      ∧ GateGainStep (s.input i).settings (t.depthOf i) (s.input i).gain (t.input i).target (t.input i).gain

/-- R29, R31 to R33, R53, R55: the gate of a GATED input outside a FREEZE pause, by its state and the band of its
frame. An input that reaches its debounce, or is DENIED and loud, asks for admission, which is settled as the
statement AdmissionsAreSettledInOrder says, and is then OPEN or DENIED. A quiet frame of an OPEN input makes its entry
HOLDING and loads its hold with the duration of the hold time code; a duration of 0 is a hold expiry in the same
event, which retains the entry or removes it (in lists that are sound) with LIST-CHANGE reason EXPIRED. A loud frame
of a HOLDING input makes it OPEN, and clears the hold and the retained flag. In every case the estimate, the rise
count, the gate gain, the level and the delay memory of the input apart, nothing else changes: at a hold expiry
nothing but the input's gate, count, target and reversal count, the list and NOM attenuation of its effective area,
the gain targets, and the notice; a quiet frame of an OPEN input, or a loud one of a HOLDING input, is that of one
with an effective area. -/
def Obligations.GatesFollowTheirBands : Prop :=
  ∀ (s : State) (i : Fin 24) (samples : List Int), s.powered = true → (s.input i).settings.mode = .gated →
    s.frozen i = false →
      ∃ t, exec (.inputFrame i samples) s = .next t
        ∧ (∀ open_ : Int, open_ = (s.input i).noiseFloor + (s.input i).settings.offset →
          ((s.input i).gate = .closed → (t.input i).level < open_ → (t.input i).gate = .closed)
          ∧ ((s.input i).gate = .closed → open_ ≤ (t.input i).level → 1 < (s.input i).settings.debounce →
              (t.input i).gate = .qualifying ∧ (t.input i).qualifying = 1)
          ∧ ((s.input i).gate = .closed → open_ ≤ (t.input i).level → (s.input i).settings.debounce ≤ 1 →
              ((t.input i).gate = .opened ∨ (t.input i).gate = .denied) ∧ (t.input i).qualifying = 0)
          ∧ ((s.input i).gate = .qualifying → (t.input i).level < open_ →
              (t.input i).gate = .closed ∧ (t.input i).qualifying = 0)
          ∧ ((s.input i).gate = .qualifying → open_ ≤ (t.input i).level →
              (s.input i).qualifying + 1 < (s.input i).settings.debounce →
              (t.input i).gate = .qualifying ∧ (t.input i).qualifying = (s.input i).qualifying + 1)
          ∧ ((s.input i).gate = .qualifying → open_ ≤ (t.input i).level →
              (s.input i).settings.debounce ≤ (s.input i).qualifying + 1 →
              ((t.input i).gate = .opened ∨ (t.input i).gate = .denied) ∧ (t.input i).qualifying = 0)
          ∧ ((s.input i).gate = .denied → (t.input i).level < open_ → (t.input i).gate = .closed)
          ∧ ((s.input i).gate = .denied → open_ ≤ (t.input i).level →
              (t.input i).gate = .opened ∨ (t.input i).gate = .denied)
          ∧ ((s.input i).gate = .opened → open_ - 30 ≤ (t.input i).level → (t.input i).gate = .opened)
          ∧ ((s.input i).gate = .opened → (t.input i).level < open_ - 30 →
              (t.input i).gate = .holding
                ∨ (timeCodeMs (s.input i).settings.holdCode = 0 ∧ (t.input i).gate = .closed))
          ∧ ((s.input i).gate = .holding → open_ ≤ (t.input i).level → (t.input i).gate = .opened)
          ∧ ((s.input i).gate = .holding → (t.input i).level < open_ → (t.input i).gate = .holding))
        ∧ ∀ open_ : Int, open_ = (s.input i).noiseFloor + (s.input i).settings.offset →
          ∀ heard : Input,
            heard = { s.input i with level := (t.input i).level, memory := (t.input i).memory, frameTaken := true } →
          ∀ ends : State → Prop,
            (∀ u, ends u ↔ t = u.setInput i { u.input i with
              noiseFloor := (t.input i).noiseFloor, rise := (t.input i).rise, gain := (t.input i).gain }) →
          ((s.input i).gate = .closed →
            ((t.input i).level < open_ → ends (s.setInput i heard))
            ∧ (open_ ≤ (t.input i).level → 1 < (s.input i).settings.debounce →
                ends (s.setInput i { heard with gate := .qualifying, qualifying := 1 }))
            ∧ (open_ ≤ (t.input i).level → (s.input i).settings.debounce ≤ 1 →
                ends ((s.setInput i { heard with gate := .qualifying, qualifying := 1 }).requestAdmission i)))
          ∧ ((s.input i).gate = .qualifying →
            ((t.input i).level < open_ → ends (s.setInput i { heard with gate := .closed, qualifying := 0 }))
            ∧ (open_ ≤ (t.input i).level → (s.input i).qualifying + 1 < (s.input i).settings.debounce →
                ends (s.setInput i { heard with qualifying := (s.input i).qualifying + 1 }))
            ∧ (open_ ≤ (t.input i).level → (s.input i).settings.debounce ≤ (s.input i).qualifying + 1 →
                ends ((s.setInput i
                  { heard with qualifying := (s.input i).qualifying + 1 }).requestAdmission i)))
          ∧ ((s.input i).gate = .denied →
            ((t.input i).level < open_ → ends (s.setInput i { heard with gate := .closed, qualifying := 0 }))
            ∧ (open_ ≤ (t.input i).level → ends ((s.setInput i heard).requestAdmission i)))
          ∧ ((s.input i).gate = .opened →
            (open_ - 30 ≤ (t.input i).level → ends (s.setInput i heard))
            ∧ ((t.input i).level < open_ - 30 → ∀ k hold, s.inputArea i = some k →
                hold = timeCodeMs (s.input i).settings.holdCode →
                (0 < hold → ends ((s.setInput i { heard with gate := .holding }).setArea k
                  { s.area k with list := (s.area k).list.map fun e =>
                      if e.input = i then { e with hold } else e }))
                ∧ (hold = 0 →
                  t = { s with inputs := t.inputs, areas := t.areas, crosspoints := t.crosspoints, queue := t.queue,
                               overflow := t.overflow }
                  ∧ (∀ j, j ≠ i → t.input j = s.input j)
                  ∧ (t.input i = { heard with
                      gate := (t.input i).gate, qualifying := (t.input i).qualifying, target := (t.input i).target,
                      reversals := (t.input i).reversals, noiseFloor := (t.input i).noiseFloor,
                      rise := (t.input i).rise, gain := (t.input i).gain })
                  ∧ ReversalCounted (s.input i) (t.input i)
                  ∧ (∀ l, l ≠ k → t.area l = s.area l)
                  ∧ t.area k = { s.area k with list := (t.area k).list, nom := t.nomOf k }
                  ∧ (∀ y, t.crosspoint y = { s.crosspoint y with targetGain := (t.crosspoint y).targetGain })
                  ∧ ∀ retains : Prop,
                    (retains ↔ ((s.area k).settings.lastMicHold = true ∧ (s.input i).settings.lastMic = true
                      ∧ (s.area k).list.length = 1
                      ∧ ¬ ((s.area k).paused = true ∧ (s.area k).settings.pauseMode = .drain))) →
                    (retains → (t.input i).gate = .holding ∧ t.queue = s.queue ∧ t.overflow = s.overflow
                      ∧ (t.input i).qualifying = (s.input i).qualifying ∧ (t.input i).target = (s.input i).target
                      ∧ ((s.area k).nom = s.nomOf k → (t.area k).nom = (s.area k).nom ∧ t.crosspoints = s.crosspoints)
                      ∧ (t.area k).list = (s.area k).list.map fun e =>
                          if e.input = i then { e with retained := true, hold := 0 } else e)
                    ∧ (¬ retains → ListsSound s → s.isEntry i = true → (t.input i).gate = .closed
                      ∧ (t.input i).qualifying = 0 ∧ (t.input i).target = t.gateTargetOf i
                      ∧ (t.area k).list = (s.area k).list.eraseP (fun e => e.input == i)
                      ∧ Notified s t [(.listChange, i.val + 1,
                          areaNumber k * 65536 + 3 * 256 + ((s.area k).list.length - 1 : Nat))]))))
          ∧ ((s.input i).gate = .holding →
            ((t.input i).level < open_ → ends (s.setInput i heard))
            ∧ (open_ ≤ (t.input i).level → ∀ k, s.inputArea i = some k →
                ends ((s.setInput i { heard with gate := .opened }).setArea k
                  { s.area k with list := (s.area k).list.map fun e =>
                      if e.input = i then { e with retained := false, hold := 0 } else e })))

/-- R28, R39: every step keeps the noise-floor estimates, the rise counts and the reversal counts in range. -/
def Obligations.DetectorsStayInRange : Prop :=
  ∀ s t : State, DetectorsInRange s → step s = .next t → DetectorsInRange t

/-! ### Open lists and areas (chapters 3 and 5) -/

/-- R43, R50, R93, R104: every step keeps the open lists and the join maps sound. -/
def Obligations.ListsAndMapsStaySound : Prop :=
  ∀ s t : State, ListsSound s → MapsValid s → step s = .next t → ListsSound t ∧ MapsValid t

/-- R49: the first entry in victim order stands before every other: it is HOLDING where any entry is, it has the
lowest priority of its state, and it is the oldest of its state and priority. -/
def Obligations.VictimIsTheFirstInOrder : Prop :=
  ∀ (s : State) (entries : List Entry) (e : Entry), s.firstVictim entries = some e →
    ∃ older younger, entries = older ++ e :: younger
      ∧ (∀ f ∈ older ++ younger, s.holds f = true → s.holds e = true)
      ∧ (∀ f ∈ older, s.holds f = s.holds e → e.priority < f.priority)
      ∧ (∀ f ∈ younger, s.holds f = s.holds e → e.priority ≤ f.priority)

/-- R32, R44, R50, R51: how an admission request is settled at the list of the input's effective area. In a FREEZE or
DRAIN pause it is refused. A retained entry, the only one of its list, gives way first, and its input becomes CLOSED.
With room the input is appended. With none, the first eligible entry in victim order is evicted and the input
appended; with no eligible entry it is refused. Eligible is a HOLDING entry of no higher priority, an OPEN one of
lower priority, and, with a takeover margin, an OPEN one of equal priority whose input's level is lower than the
request's by the margin or more. A refused input is DENIED and the list stands. No other area changes, and of this
area its list and NOM attenuation alone. LIST-CHANGE is raised for the entry that leaves (RELEASED or EVICTED) and
then for the admission. That the new entry takes the hold-tick flag of its list is the model's choice (log 7). -/
def Obligations.AdmissionsAreSettledInOrder : Prop :=
  ∀ (s : State) (i : Fin 24) (k : Area), s.inputArea i = some k →
    ∀ entry : Entry,
      entry = { input := i, priority := (s.input i).settings.priority, stamp := s.stamp, retained := false,
                hold := 0, openingLevel := (s.input i).level, ticked := (s.area k).tickTaken } →
    ∀ change : Nat → Nat → Int,
      (∀ reason length, change reason length = areaNumber k * 65536 + reason * 256 + length) →
    ∀ t : State, t = s.requestAdmission i →
      (t = { s with inputs := t.inputs, areas := t.areas, crosspoints := t.crosspoints, queue := t.queue,
                    overflow := t.overflow }
        ∧ ListEvent s t ∧ (∀ y, (t.crosspoint y).live = (s.crosspoint y).live)
        ∧ (∀ l, l ≠ k → t.area l = s.area l)
        ∧ t.area k = { s.area k with list := (t.area k).list, nom := (t.area k).nom })
      ∧ (((s.area k).paused = true ∧ (s.area k).settings.pauseMode ≠ .track) →
        (t.area k).list = (s.area k).list ∧ (t.input i).gate = .denied ∧ t.queue = s.queue)
      ∧ (¬ ((s.area k).paused = true ∧ (s.area k).settings.pauseMode ≠ .track) →
        (∀ r, (s.area k).list = [r] → r.retained = true → 1 ≤ (s.area k).settings.maxOpen →
          (t.area k).list = [entry] ∧ (t.input i).gate = .opened
          ∧ (r.input ≠ i → (t.input r.input).gate = .closed ∧ (t.input r.input).qualifying = 0)
          ∧ Notified s t [(.listChange, r.input.val + 1, change 6 0), (.listChange, i.val + 1, change 1 1)])
        ∧ ((∀ e ∈ (s.area k).list, e.retained = false) →
          ((s.area k).list.length < (s.area k).settings.maxOpen →
            (t.area k).list = (s.area k).list ++ [entry] ∧ (t.input i).gate = .opened
            ∧ Notified s t [(.listChange, i.val + 1, change 1 ((s.area k).list.length + 1))])
          ∧ ((s.area k).settings.maxOpen ≤ (s.area k).list.length →
            ∀ eligible : Entry → Bool,
              (∀ e, eligible e = true ↔
                ((s.input e.input).gate = .holding ∧ e.priority ≤ (s.input i).settings.priority)
                ∨ ((s.input e.input).gate ≠ .holding ∧ e.priority < (s.input i).settings.priority)
                ∨ ((s.input e.input).gate ≠ .holding ∧ (s.area k).settings.margin ≠ 0
                    ∧ e.priority = (s.input i).settings.priority
                    ∧ (s.input e.input).level ≤ (s.input i).level - (s.area k).settings.margin)) →
              (s.firstVictim ((s.area k).list.filter eligible) = none →
                (t.area k).list = (s.area k).list ∧ (t.input i).gate = .denied ∧ t.queue = s.queue)
              ∧ ∀ v, s.firstVictim ((s.area k).list.filter eligible) = some v →
                  (t.area k).list = ((s.area k).list.eraseP fun e => e.input == v.input) ++ [entry]
                  ∧ (t.input i).gate = .opened
                  ∧ (v.input ≠ i → (t.input v.input).gate = .closed ∧ (t.input v.input).qualifying = 0)
                  ∧ Notified s t [(.listChange, v.input.val + 1, change 2 ((s.area k).list.length - 1)),
                                  (.listChange, i.val + 1, change 1 (s.area k).list.length)])))

/-- R34, R39, R54, R55, R102: a hold tick of a list in use, outside a FREEZE pause and not yet taken in this frame,
counts down the hold of each HOLDING entry that is not retained and has taken no tick in this frame; otherwise
HOLD_TICK changes nothing. Where no hold ends, the list keeps its entries and the inputs stand. An entry whose hold
comes to its end is retained when last-mic hold is on, the input is eligible, the entry is the only one and the area
is not in a DRAIN pause; else it leaves the list, its input is CLOSED, and LIST-CHANGE with reason EXPIRED is raised:
so at a tick in which one hold ends, of a list of two whose holds end in one tick of the first and then the second,
and at a HOLD_EXPIRY; and of any number that end in one tick (in lists that are sound) one after the other, in list
order from the head, each at the list as those before it left it, and no other input changes. No other area and
nothing else of the area or the plan changes, its NOM attenuation and the gain targets apart. With no hold that has
run out, HOLD_EXPIRY changes nothing (log 6). A gate-gain target that turns a ramping gate gain counts as a reversal
(in lists that are sound). -/
def Obligations.HoldsCountDownAndExpire : Prop :=
  (∀ (s : State) (k : Area), s.powered = true →
     ∃ t, exec (.holdTick k) s = .next t
       ∧ t = { s with inputs := t.inputs, areas := t.areas, crosspoints := t.crosspoints, queue := t.queue,
                      overflow := t.overflow }
       ∧ (∀ l, l ≠ k → t.area l = s.area l)
       ∧ ListEvent s t ∧ (∀ y, (t.crosspoint y).live = (s.crosspoint y).live)
       ∧ (t.area k = { s.area k with list := (t.area k).list, nom := (t.area k).nom, tickTaken := (t.area k).tickTaken })
       ∧ (ListsSound s → ∀ j, ReversalCounted (s.input j) (t.input j))
       ∧ (((s.area k).joinedInto ≠ none ∨ ((s.area k).paused = true ∧ (s.area k).settings.pauseMode = .freeze)
             ∨ (s.area k).tickTaken = true) → t = s)
       ∧ ((s.area k).joinedInto = none → ¬ ((s.area k).paused = true ∧ (s.area k).settings.pauseMode = .freeze) →
           (s.area k).tickTaken = false →
           (t.area k).tickTaken = true
           ∧ ((∀ e ∈ (s.area k).list, s.holds e = true → e.retained = false → e.ticked = false → 2 ≤ e.hold) →
               t.inputs = s.inputs
               ∧ (t.area k).list = (s.area k).list.map fun e =>
                   { e with hold := if s.holds e = true ∧ e.retained = false ∧ e.ticked = false then e.hold - 1
                                    else e.hold,
                            ticked := true })
           ∧ ∀ counted : Entry → Entry,
               (∀ e, counted e
                 = { e with hold := if s.holds e = true ∧ e.retained = false ∧ e.ticked = false then e.hold - 1
                                    else e.hold,
                            ticked := true }) →
             ∀ ends : Entry → Prop,
               (∀ e, ends e ↔ (s.holds e = true ∧ e.retained = false ∧ e.ticked = false ∧ e.hold ≤ 1)) →
             ∀ retains : Entry → Prop,
               (∀ e, retains e ↔ ((s.area k).settings.lastMicHold = true
                 ∧ (s.input e.input).settings.lastMic = true
                 ∧ ¬ ((s.area k).paused = true ∧ (s.area k).settings.pauseMode = .drain))) →
             (∀ older e younger, (s.area k).list = older ++ e :: younger → ends e →
               (∀ f ∈ older ++ younger, ¬ ends f ∧ f.input ≠ e.input) →
                 ((older ++ younger = [] ∧ retains e) →
                   t.inputs = s.inputs ∧ t.queue = s.queue
                   ∧ (t.area k).list = [{ e with retained := true, hold := 0, ticked := true }])
                 ∧ (¬ (older ++ younger = [] ∧ retains e) →
                   (t.area k).list = (older ++ younger).map counted
                   ∧ (t.input e.input).gate = .closed ∧ (t.input e.input).qualifying = 0
                   ∧ (t.input e.input).target = t.gateTargetOf e.input
                   ∧ Notified s t [(.listChange, e.input.val + 1,
                       areaNumber k * 65536 + 3 * 256 + (older ++ younger).length)]))
             ∧ (∀ e f, (s.area k).list = [e, f] → e.input ≠ f.input → ends e → ends f →
                 (t.input e.input).gate = .closed
                 ∧ (retains f → (t.area k).list = [{ f with retained := true, hold := 0, ticked := true }]
                     ∧ t.input f.input = s.input f.input
                     ∧ Notified s t [(.listChange, e.input.val + 1, areaNumber k * 65536 + 3 * 256 + 1)])
                 ∧ (¬ retains f → (t.area k).list = [] ∧ (t.input f.input).gate = .closed
                     ∧ Notified s t [(.listChange, e.input.val + 1, areaNumber k * 65536 + 3 * 256 + 1),
                                     (.listChange, f.input.val + 1, areaNumber k * 65536 + 3 * 256)]))
             ∧ (ListsSound s → ∀ (last : Entry → Bool) (ended : List Entry), (∀ e, last e = true ↔ retains e) →
                 (∃ test : Entry → Bool, (∀ e, test e = true ↔ ends e) ∧ ended = (s.area k).list.filter test) →
                 ∀ stands gone : List Entry,
                   (stands, gone) = expiriesInTurn last ended ((s.area k).list.map counted) →
                     (t.area k).list = stands
                     ∧ Notified s t (departures k 3 (s.area k).list.length gone)
                     ∧ (∀ e ∈ gone, (t.input e.input).gate = .closed ∧ (t.input e.input).qualifying = 0
                         ∧ (t.input e.input).target = t.gateTargetOf e.input)
                     ∧ ∀ j, (∀ e ∈ gone, e.input ≠ j) → t.input j = s.input j)))
  ∧ (∀ (s : State) (i : Fin 24) (k : Area), s.powered = true → s.inputArea i = some k →
     ∃ t, exec (.holdExpiry i) s = .next t
       ∧ t = { s with inputs := t.inputs, areas := t.areas, crosspoints := t.crosspoints, queue := t.queue,
                      overflow := t.overflow }
       ∧ (∀ l, l ≠ k → t.area l = s.area l) ∧ (∀ j, j ≠ i → t.input j = s.input j)
       ∧ ListEvent s t ∧ (∀ y, (t.crosspoint y).live = (s.crosspoint y).live)
       ∧ (t.area k = { s.area k with list := (t.area k).list, nom := (t.area k).nom })
       ∧ ReversalCounted (s.input i) (t.input i)
       ∧ ((¬ ∃ e ∈ (s.area k).list, e.input = i ∧ s.holds e = true ∧ e.retained = false ∧ e.hold = 0) → t = s)
       ∧ ((∃ e ∈ (s.area k).list, e.input = i ∧ s.holds e = true ∧ e.retained = false ∧ e.hold = 0) →
           ((s.area k).settings.lastMicHold = true ∧ (s.input i).settings.lastMic = true
               ∧ (s.area k).list.length = 1
               ∧ ¬ ((s.area k).paused = true ∧ (s.area k).settings.pauseMode = .drain) →
             t.inputs = s.inputs ∧ t.queue = s.queue
             ∧ (t.area k).list
                 = (s.area k).list.map fun e => if e.input = i then { e with retained := true, hold := 0 } else e)
           ∧ (¬ ((s.area k).settings.lastMicHold = true ∧ (s.input i).settings.lastMic = true
               ∧ (s.area k).list.length = 1
               ∧ ¬ ((s.area k).paused = true ∧ (s.area k).settings.pauseMode = .drain)) →
             (t.area k).list = ((s.area k).list.eraseP fun e => e.input == i)
             ∧ (t.input i).gate = .closed ∧ (t.input i).qualifying = 0
             ∧ (t.input i).target = t.gateTargetOf i
             ∧ Notified s t [(.listChange, i.val + 1,
                 areaNumber k * 65536 + 3 * 256 + ((s.area k).list.length - 1 : Nat))])))

/-- R34, R39, R46 to R49, R61, R64: an accepted ARSET sets the area's settings. Those of a joined area act on nothing.
A list in use is brought to the new max open where it is longer, by removing the first entry in victim order, again
and again, with LIST-CHANGE reason REDUCED; then a retained entry leaves, with RELEASED, where last-mic hold is turned
off or a paused area's mode becomes DRAIN. The inputs of the entries that leave become CLOSED, and all other gates
stand (lists that are sound). With no retained entry and no more entries than max open the list stands, in any state.
The gate-gain targets of the GATED inputs whose effective area it is are those of the new settings. No other area
changes. A gate-gain target that turns a ramping gate gain counts as a reversal. The reply is formed in the event of
its request (log 26). -/
def Obligations.ArsetSetsAnArea : Prop :=
  ∀ (s : State) (tag : Byte) (k : Area) (x : AreaSettings), Ready s .control → AreaSent x →
    ∃ t, exec (.arset tag (areaByte (some k) ++ x.bytes)) s = .next t
      ∧ t = { s with inputs := t.inputs, areas := t.areas, crosspoints := t.crosspoints, queue := t.queue,
                     overflow := t.overflow, control := t.control }
      ∧ Replied t .control 0x20 tag (doneUnless (areaTaken x ≠ x)) []
      ∧ (t.area k).settings = areaTaken x
      ∧ (t.area k).joinedInto = (s.area k).joinedInto ∧ (t.area k).paused = (s.area k).paused
      ∧ (t.area k = { s.area k with
          settings := (t.area k).settings, list := (t.area k).list, nom := (t.area k).nom })
      ∧ (∀ l, l ≠ k → t.area l = s.area l)
      ∧ ListEvent s t
      ∧ (∀ j, ReversalCounted (s.input j) (t.input j))
      ∧ ((s.area k).joinedInto ≠ none →
          t = { s.setArea k { s.area k with settings := areaTaken x } with control := t.control })
      ∧ ((s.area k).joinedInto = none →
          (t.area k).list.length ≤ (areaTaken x).maxOpen ∧ (t.area k).list.Sublist (s.area k).list
          ∧ ((∀ e ∈ (s.area k).list, e.retained = false) →
              (t.area k).list.length = min (s.area k).list.length (areaTaken x).maxOpen
              ∧ ((s.area k).list.length ≤ (areaTaken x).maxOpen →
                  (t.area k).list = (s.area k).list ∧ t.queue = s.queue
                  ∧ ∀ i, (t.input i).gate = (s.input i).gate))
          ∧ (ListsSound s → ∀ cut released : List Entry,
              cut = victims s ((s.area k).list.length - (areaTaken x).maxOpen) (s.area k).list →
              released = (if ((s.area k).settings.lastMicHold = true ∧ x.lastMicHold = false)
                  ∨ ((s.area k).paused = true ∧ x.pauseMode = .drain ∧ (s.area k).settings.pauseMode ≠ .drain)
                then (without (s.area k).list cut).filter (fun e => e.retained) else []) →
                (t.area k).list = without (s.area k).list (cut ++ released)
                ∧ Departed s t (cut ++ released)
                ∧ Notified s t (departures k 5 (s.area k).list.length cut
                    ++ departures k 6 ((s.area k).list.length - cut.length) released))
          ∧ ∀ i, (s.input i).settings.mode = .gated → s.inputArea i = some k →
              (t.input i).target = t.gateTargetOf i)

/-- R34, R39, R59, R61, R64: PAUS sets and RSUM clears the pause flag of an area whose list is in use, and is refused
with ORDER for a joined area. A flag that already stands so changes nothing. Where it changes, the gate-gain targets
of the GATED inputs whose effective area it is are evaluated afresh; a DRAIN pause removes a retained entry, whose
input becomes CLOSED, with LIST-CHANGE reason RELEASED, and leaves the entries that are not retained (of lists that
are sound), and any other change of the flag leaves the list and the gates as they were and raises no notice. No other
area changes. A gate-gain target that turns a ramping gate gain counts as a reversal. The reply is formed in the event
of its request (log 26). -/
def Obligations.PausAndRsumWriteThePauseFlag : Prop :=
  ∀ (s : State) (tag : Byte) (k : Area) (flag : Bool) (c : Instr) (kind : Byte), Ready s .control →
    ((flag = true ∧ c = .paus tag (areaByte (some k)) ∧ kind = 0x24)
      ∨ (flag = false ∧ c = .rsum tag (areaByte (some k)) ∧ kind = 0x25)) →
      ((s.area k).joinedInto ≠ none →
        ∃ t, exec c s = .next t ∧ t = { s with control := t.control } ∧ Replied t .control kind tag .order [])
      ∧ ((s.area k).joinedInto = none →
        ∃ t, exec c s = .next t
          ∧ t = { s with inputs := t.inputs, areas := t.areas, crosspoints := t.crosspoints, queue := t.queue,
                         overflow := t.overflow, control := t.control }
          ∧ Replied t .control kind tag .done []
          ∧ (t.area k).paused = flag ∧ (t.area k).settings = (s.area k).settings
          ∧ (t.area k = { s.area k with paused := flag, list := (t.area k).list, nom := (t.area k).nom })
          ∧ (∀ l, l ≠ k → t.area l = s.area l)
          ∧ ListEvent s t
          ∧ (∀ j, ReversalCounted (s.input j) (t.input j))
          ∧ ((s.area k).paused = flag → t = { s with control := t.control })
          ∧ ((s.area k).paused ≠ flag →
              (∀ i, (s.input i).settings.mode = .gated → s.inputArea i = some k →
                (t.input i).target = t.gateTargetOf i)
              ∧ ((flag = true ∧ (s.area k).settings.pauseMode = .drain) →
                (t.area k).list.Sublist (s.area k).list
                ∧ (ListsSound s →
                    (t.area k).list = (s.area k).list.filter (fun e => !e.retained)
                    ∧ Departed s t ((s.area k).list.filter fun e => e.retained)
                    ∧ Notified s t (departures k 6 (s.area k).list.length
                        ((s.area k).list.filter fun e => e.retained))))
              ∧ (¬ (flag = true ∧ (s.area k).settings.pauseMode = .drain) →
                (t.area k).list = (s.area k).list ∧ t.queue = s.queue ∧ t.overflow = s.overflow
                ∧ Departed s t [])))

/-- R34, R39, R64, R95 to R98, R102: JOIN is refused with ORDER where X is Y, X is joined or leads, or Y is joined,
and nothing changes. Else X is joined into Y: X's list is empty and its NOM attenuation 0, Y's holds no more entries
than its max open, all from the two lists, and every live flag and gain target is that of the new map. In lists that
are sound, the merged list is that of the two in the order of age, oldest first (log 9), on equal ages in the order of
each list and Y's first; a retained entry leaves it, with LIST-CHANGE reason RELEASED, where it is not alone, or Y is
in a DRAIN pause, or Y's last-mic hold is off (log 8); and then the first entry in victim order, again and again, with
OVERFLOW, down to max open. The inputs of the entries that leave become CLOSED, and all other gates stand. With no
retained entry in either list, Y's holds as many of them as max open allows, in any state. An entry that moves after
its old list's hold tick of this frame takes no other in it (R102; the flag: log 7). A gate-gain target that turns a
ramping gate gain counts as a reversal. The reply is formed in the event of its request (log 26). -/
def Obligations.JoinMergesTwoAreas : Prop :=
  ∀ (s : State) (tag : Byte) (x y : Area), Ready s .control →
    ((x = y ∨ (s.area x).joinedInto ≠ none ∨ (∃ l, (s.area l).joinedInto = some x)
        ∨ (s.area y).joinedInto ≠ none) →
      ∃ t, exec (.join tag (areaByte (some x) ++ areaByte (some y))) s = .next t
        ∧ t = { s with control := t.control } ∧ Replied t .control 0x22 tag .order [])
    ∧ ((x ≠ y ∧ (s.area x).joinedInto = none ∧ (∀ l, (s.area l).joinedInto ≠ some x)
        ∧ (s.area y).joinedInto = none) →
      ∃ t, exec (.join tag (areaByte (some x) ++ areaByte (some y))) s = .next t
        ∧ t = { s with inputs := t.inputs, areas := t.areas, crosspoints := t.crosspoints, queue := t.queue,
                       overflow := t.overflow, control := t.control }
        ∧ Replied t .control 0x22 tag .done []
        ∧ (t.area x).joinedInto = some y ∧ (t.area x).list = [] ∧ (t.area x).nom = 0
        ∧ (t.area y).list.length ≤ (t.area y).settings.maxOpen
        ∧ (∀ moved, moved = (s.area x).list.map (fun e =>
              { e with ticked := e.ticked || (s.area x).tickTaken }) →
            (∀ e ∈ (t.area y).list, e ∈ moved ∨ e ∈ (s.area y).list)
            ∧ ((∀ e, e ∈ moved ∨ e ∈ (s.area y).list → e.retained = false) →
                (t.area y).list.length = min (moved.length + (s.area y).list.length) (s.area y).settings.maxOpen
                ∧ (moved.length + (s.area y).list.length ≤ (s.area y).settings.maxOpen →
                    (t.area y).list.Perm ((s.area y).list ++ moved)
                    ∧ (t.area y).list.Pairwise
                        (fun e f => (s.stamp - f.stamp).toNat ≤ (s.stamp - e.stamp).toNat)
                    ∧ t.queue = s.queue ∧ ∀ i, (t.input i).gate = (s.input i).gate)))
        ∧ (ListsSound s →
            ∃ merged : List Entry,
              (∀ age : Nat, merged.filter (fun e => (s.stamp - e.stamp).toNat == age)
                = ((s.area y).list ++ (s.area x).list.map (fun e : Entry =>
                    { e with ticked := e.ticked || (s.area x).tickTaken })).filter
                  (fun e => (s.stamp - e.stamp).toNat == age))
              ∧ merged.Pairwise (fun e f => (s.stamp - f.stamp).toNat ≤ (s.stamp - e.stamp).toNat)
              ∧ ∀ released stays cut : List Entry,
                  released = (if 1 < merged.length ∨ (s.area y).settings.lastMicHold = false
                      ∨ ((s.area y).paused = true ∧ (s.area y).settings.pauseMode = .drain)
                    then merged.filter (fun e => e.retained) else []) →
                  stays = without merged released →
                  cut = victims s (stays.length - (s.area y).settings.maxOpen) stays →
                    (t.area y).list = without stays cut
                    ∧ Departed s t (released ++ cut)
                    ∧ Notified s t (departures y 6 merged.length released ++ departures y 7 stays.length cut))
        ∧ (∀ j, ReversalCounted (s.input j) (t.input j))
        ∧ (∀ l, t.area l = { s.area l with
            joinedInto := (t.area l).joinedInto, list := (t.area l).list, nom := (t.area l).nom })
        ∧ (t.area y).joinedInto = none ∧ ListEvent s t
        ∧ (∀ l, l ≠ x → l ≠ y → t.area l = s.area l)
        ∧ PlanComposed t)

/-- R34, R39, R64, R99, R100, R102: SPLT is refused with ORDER where X is not joined, and nothing changes. Else, X
being joined into another area, X is alone: the entries of X's own inputs stand in X's list and those of all others in
its former lead's. Where those of X's own inputs are more than its max open, the first in victim order leaves, again
and again, with LIST-CHANGE reason OVERFLOW; a retained one then leaves, with RELEASED, where X has last-mic hold off
or is in a DRAIN pause; the inputs of the entries that leave become CLOSED, and all other gates stand (lists that are
sound). Where they are no more than max open, each of them stands in its order, but for such a retained one. Every
live flag and gain target is that of the new map. An entry that moves after its old list's hold tick of this frame
takes no other in it (R102; the flag: log 7). A gate-gain target that turns a ramping gate gain counts as a reversal.
The reply is formed in the event of its request (log 26). -/
def Obligations.SpltDividesTwoAreas : Prop :=
  ∀ (s : State) (tag : Byte) (x : Area), Ready s .control →
    ((s.area x).joinedInto = none →
      ∃ t, exec (.splt tag (areaByte (some x))) s = .next t ∧ t = { s with control := t.control }
        ∧ Replied t .control 0x23 tag .order [])
    ∧ ∀ y, (s.area x).joinedInto = some y → x ≠ y →
      ∃ t, exec (.splt tag (areaByte (some x))) s = .next t
        ∧ t = { s with inputs := t.inputs, areas := t.areas, crosspoints := t.crosspoints, queue := t.queue,
                       overflow := t.overflow, control := t.control }
        ∧ Replied t .control 0x23 tag .done []
        ∧ (t.area x).joinedInto = none
        ∧ (t.area x).list.length ≤ (t.area x).settings.maxOpen
        ∧ (∀ own, own = ((s.area y).list.filter (fun e => (s.input e.input).settings.area == some x)).map (fun e =>
              { e with ticked := e.ticked || (s.area y).tickTaken }) →
            (t.area x).list.Sublist own
            ∧ ((∀ e ∈ own, e.retained = false) →
                (t.area x).list.length = min own.length (s.area x).settings.maxOpen)
            ∧ (own.length ≤ (s.area x).settings.maxOpen →
                ((∀ e ∈ own, e.retained = false) →
                  (t.area x).list = own ∧ t.queue = s.queue ∧ ∀ i, (t.input i).gate = (s.input i).gate)
                ∧ (((s.area x).settings.lastMicHold = true
                    ∧ ¬ ((s.area x).paused = true ∧ (s.area x).settings.pauseMode = .drain)) →
                  (t.area x).list = own)
                ∧ (¬ ((s.area x).settings.lastMicHold = true
                    ∧ ¬ ((s.area x).paused = true ∧ (s.area x).settings.pauseMode = .drain)) →
                  ListsSound s → (t.area x).list = own.filter fun e => !e.retained)))
        ∧ (ListsSound s → ∀ own cut rest released : List Entry,
            own = ((s.area y).list.filter (fun e => (s.input e.input).settings.area == some x)).map (fun e =>
              { e with ticked := e.ticked || (s.area y).tickTaken }) →
            cut = victims s (own.length - (s.area x).settings.maxOpen) own →
            rest = without own cut →
            released = (if (s.area x).settings.lastMicHold = false
                ∨ ((s.area x).paused = true ∧ (s.area x).settings.pauseMode = .drain)
              then rest.filter (fun e => e.retained) else []) →
              (t.area x).list = without rest released
              ∧ Departed s t (cut ++ released)
              ∧ Notified s t (departures x 7 own.length cut ++ departures x 6 rest.length released))
        ∧ (t.area y).list = ((s.area y).list.filter fun e => (s.input e.input).settings.area != some x)
        ∧ (∀ j, ReversalCounted (s.input j) (t.input j))
        ∧ (∀ l, t.area l = { s.area l with
            joinedInto := (t.area l).joinedInto, list := (t.area l).list, nom := (t.area l).nom })
        ∧ (t.area y).joinedInto = (s.area y).joinedInto ∧ ListEvent s t
        ∧ (∀ l, l ≠ x → l ≠ y → t.area l = s.area l)
        ∧ PlanComposed t

/-- R36, R58: every step keeps every gate-gain target what Table 2-3 gives and every area's NOM attenuation what
its list's length gives by the table of R58, in a part whose lists and join maps are sound (the statement
ListsAndMapsStaySound). -/
def Obligations.GateTargetsAndNomStayCurrent : Prop :=
  (∀ s t : State, ListsSound s → MapsValid s → GateTargetsCurrent s → step s = .next t → GateTargetsCurrent t)
  ∧ (((List.range 9).map nomOfLength = [0, 0, 30, 48, 60, 70, 78, 85, 90])
     ∧ ∀ s t : State, ListsSound s → MapsValid s → NomCurrent s → step s = .next t → NomCurrent t)

/-! ### The plan and the zones (chapter 4) -/

/-- R68, R69, R76, R77: every step keeps every live flag and every gain target what the live setup, the trims
and the NOM attenuations give. -/
def Obligations.LiveFlagsAndGainTargetsStayCurrent : Prop :=
  ∀ s t : State, PlanComposed s → step s = .next t → PlanComposed t

/-- R2, R66, R81 to R84: every step keeps the gains of every crosspoint at the floor or within −600..+120, and its
delays consistent: a STEADY crosspoint stands at its target, and a MOVING one has not come to its move's end, and
holds no pending delay but its target, other than the delay it moves to. -/
def Obligations.PlanRecordsStaySound : Prop :=
  ∀ s t : State, PlanRecordsSound s → step s = .next t → PlanRecordsSound t

/-- R73, R74: an accepted ZNSET sets the zone's scene fields, keeps the trim within the new limits, and leaves the
live flags and gain targets of the zone's crosspoints composed from them; nothing else of a crosspoint, and no other
zone or crosspoint, changes. The reply is formed in the event of its request (log 26). -/
def Obligations.ZnsetSetsAZonesSceneFields : Prop :=
  ∀ (s : State) (tag : Byte) (z : Fin 16) (x : ZoneScene), Ready s .control → ZoneSceneSent x →
    ∃ t, exec (.znset tag (byteOf (z.val + 1) ++ x.bytes)) s = .next t
      ∧ t = { s with zones := t.zones, crosspoints := t.crosspoints, control := t.control }
      ∧ Replied t .control 0x0A tag (doneUnless (zoneSceneTaken x ≠ x)) []
      ∧ t.zone z = { s.zone z with scene := zoneSceneTaken x,
                                   trim := max (zoneSceneTaken x).trimMin
                                             (min (zoneSceneTaken x).trimMax (s.zone z).trim) }
      ∧ (∀ w, w ≠ z → t.zone w = s.zone w)
      ∧ (∀ y, zoneOf y ≠ z → t.crosspoint y = s.crosspoint y)
      ∧ (∀ y, zoneOf y = z →
          t.crosspoint y = { s.crosspoint y with live := (t.crosspoint y).live,
                                                 targetGain := (t.crosspoint y).targetGain }
          ∧ (t.crosspoint y).targetGain = t.gainTargetOf y (t.crosspoint y)
          ∧ (x.area ≠ (s.zone z).scene.area → (t.crosspoint y).live = t.liveOf y (s.crosspoint y).send)
          ∧ (x.area = (s.zone z).scene.area → (t.crosspoint y).live = (s.crosspoint y).live))

/-- R70, R71, R87: an accepted SEND writes one send to each of as many crosspoints of the input as it carries values,
from the first zone on, and composes the live flag and gain target of those whose send changed; every other crosspoint
stands. An accepted SNAP brings the crosspoints of a zone, or of all, to their targets of delay and gain, and leaves
the rest. The reply is formed in the event of its request (log 26). -/
def Obligations.SendAndSnapWriteThePlan : Prop :=
  (∀ (s : State) (tag : Byte) (i : Fin 24) (z : Fin 16) (values : List Int), Ready s .control →
      values ≠ [] → z.val + values.length ≤ 16 → (∀ v ∈ values, Signed16 v) →
        ∃ t, exec (.send tag (byteOf (i.val + 1) ++ byteOf (z.val + 1) ++ values.flatMap word16)) s = .next t
          ∧ t = { s with crosspoints := t.crosspoints, control := t.control }
          ∧ Replied t .control 0x18 tag (doneUnless (values.map sendTaken ≠ values)) []
          ∧ ∀ y : Fin 384,
              ((inputOf y ≠ i ∨ (zoneOf y).val < z.val ∨ z.val + values.length ≤ (zoneOf y).val) →
                t.crosspoint y = s.crosspoint y)
              ∧ (inputOf y = i → ∀ n, n < values.length → (zoneOf y).val = z.val + n →
                (t.crosspoint y).send = sendTaken (values.getD n 0)
                ∧ ((t.crosspoint y).send = (s.crosspoint y).send → t.crosspoint y = s.crosspoint y)
                ∧ ((t.crosspoint y).send ≠ (s.crosspoint y).send →
                    (t.crosspoint y).live = t.liveOf y (t.crosspoint y).send
                    ∧ (t.crosspoint y).targetGain = t.gainTargetOf y (t.crosspoint y)
                    ∧ (t.crosspoint y).activeGain = (s.crosspoint y).activeGain
                    ∧ SameDelays (s.crosspoint y) (t.crosspoint y))))
    ∧ ∀ (s : State) (tag : Byte) (zone : Option (Fin 16)), Ready s .control →
        ∃ t, exec (.snap tag (indexByte zone)) s = .next t
          ∧ t = { s with crosspoints := t.crosspoints, control := t.control }
          ∧ Replied t .control 0x1A tag .done []
          ∧ ∀ y : Fin 384,
              ((zone = none ∨ zone = some (zoneOf y)) →
                t.crosspoint y
                  = { s.crosspoint y with activeDelay := (s.crosspoint y).targetDelay, move := none,
                                          pendingDelay := none, activeGain := (s.crosspoint y).targetGain })
              ∧ ((zone ≠ none ∧ zone ≠ some (zoneOf y)) → t.crosspoint y = s.crosspoint y)

/-- R78, R80, R81, R83, R84: the plan's frame step. Every active gain moves by its zone's slew under the floor
convention. A STEADY crosspoint keeps its delays; a MOVING one advances by 1, and at the end of its move stands at the
delay it moved to, or takes up its pending delay: by a new move where it is audible and the move time is not 0, and at
once where it is inaudible or the move time is 0. Where the step takes a gain to or from the floor either may be (log
15). MOVE_END ends a move that is over in the same way, and else does nothing (log 6). -/
def Obligations.PlanStepsRampGainsAndAdvanceMoves : Prop :=
  (∀ (s : State) (audio : AudioFrame), s.powered = true →
      ∃ t, exec (.planFrameStep audio) s = .next t
        ∧ t = { s with crosspoints := t.crosspoints, zones := t.zones, inputs := t.inputs }
        ∧ (∀ i, t.input i = { s.input i with gainUsed := (s.input i).gain })
        ∧ (∀ z, t.zone z = { s.zone z with sum := (t.zone z).sum, output := (t.zone z).output })
        ∧ ∀ x, PlanRamp (s.zone (zoneOf x)).geometry.slew (s.crosspoint x).activeGain
                (s.crosspoint x).targetGain (t.crosspoint x).activeGain
            ∧ (t.crosspoint x).live = (s.crosspoint x).live ∧ (t.crosspoint x).send = (s.crosspoint x).send
            ∧ (t.crosspoint x).targetGain = (s.crosspoint x).targetGain
            ∧ (t.crosspoint x).clamp = (s.crosspoint x).clamp
            ∧ ((s.crosspoint x).move = none → SameDelays (s.crosspoint x) (t.crosspoint x))
            ∧ ∀ m, (s.crosspoint x).move = some m →
                (m.elapsed + 1 < m.length →
                  (t.crosspoint x).move = some { m with elapsed := m.elapsed + 1 }
                  ∧ (t.crosspoint x).activeDelay = (s.crosspoint x).activeDelay
                  ∧ (t.crosspoint x).pendingDelay = (s.crosspoint x).pendingDelay)
                ∧ (m.length ≤ m.elapsed + 1 → (s.crosspoint x).pendingDelay = none →
                  (t.crosspoint x).move = none ∧ (t.crosspoint x).activeDelay = m.dest
                  ∧ (t.crosspoint x).pendingDelay = none)
                ∧ (m.length ≤ m.elapsed + 1 → ∀ q, (s.crosspoint x).pendingDelay = some q → q ≠ m.dest →
                  (t.crosspoint x).pendingDelay = none ∧ (t.crosspoint x).targetDelay = q
                  ∧ (((t.crosspoint x).move = none ∧ (t.crosspoint x).activeDelay = q)
                    ∨ ((t.crosspoint x).move
                          = some ⟨q, 0, timeCodeMs (s.zone (zoneOf x)).geometry.moveCode⟩
                        ∧ (t.crosspoint x).activeDelay = m.dest))
                  ∧ ((moveFramesAt s x = 0
                      ∨ (Inaudible s x (s.crosspoint x) ∧ Inaudible t x (t.crosspoint x))) →
                      (t.crosspoint x).move = none ∧ (t.crosspoint x).activeDelay = q)
                  ∧ (moveFramesAt s x ≠ 0 → ¬ Inaudible s x (s.crosspoint x) →
                      ¬ Inaudible t x (t.crosspoint x) →
                      (t.crosspoint x).move = some ⟨q, 0, moveFramesAt s x⟩
                        ∧ (t.crosspoint x).activeDelay = m.dest)))
    ∧ (∀ (s : State) (x : Fin 384) (m : Move), s.powered = true → (s.crosspoint x).move = some m →
        m.length ≤ m.elapsed → (s.crosspoint x).pendingDelay = none →
          exec (.moveEnd x) s
            = .next (s.setCrosspoint x { s.crosspoint x with activeDelay := m.dest, move := none }))
    ∧ (∀ (s : State) (x : Fin 384) (m : Move) (q : Nat), s.powered = true → (s.crosspoint x).move = some m →
        m.length ≤ m.elapsed → (s.crosspoint x).pendingDelay = some q →
          ∃ p, exec (.moveEnd x) s = .next (s.setCrosspoint x p) ∧ SameGains (s.crosspoint x) p
            ∧ p.clamp = (s.crosspoint x).clamp
            ∧ TargetArrived (Inaudible s x (s.crosspoint x)) (moveFramesAt s x) q
                { s.crosspoint x with activeDelay := m.dest, move := none, pendingDelay := none } p)
    ∧ ∀ (s : State) (x : Fin 384), s.powered = true →
        (∀ m, (s.crosspoint x).move = some m → m.elapsed < m.length) → exec (.moveEnd x) s = .next s

/-- R78, R83, R84: left to itself, a move with no pending delay ends exactly when its length has elapsed, and an
active gain within the range of the floor convention stands at its target after at most 721 plan steps. -/
def Obligations.RampsAndMovesArrive : Prop :=
  (∀ (s : State) (x : Fin 384) (m : Move) (frames : List AudioFrame), s.powered = true →
      (s.crosspoint x).move = some m → (s.crosspoint x).pendingDelay = none →
      m.elapsed < m.length →
        (m.elapsed + frames.length < m.length →
          ((after (frames.map .planFrameStep) s).crosspoint x).move
            = some { m with elapsed := m.elapsed + frames.length })
        ∧ (m.elapsed + frames.length = m.length →
          ((after (frames.map .planFrameStep) s).crosspoint x).move = none
          ∧ ((after (frames.map .planFrameStep) s).crosspoint x).activeDelay = m.dest))
    ∧ ∀ (s : State) (x : Fin 384) (frames : List AudioFrame), s.powered = true →
        1 ≤ (s.zone (zoneOf x)).geometry.slew → GainInRange (s.crosspoint x).targetGain →
        GainInRange (s.crosspoint x).activeGain → 721 ≤ frames.length →
          ((after (frames.map .planFrameStep) s).crosspoint x).activeGain = (s.crosspoint x).targetGain

/-- R83, R89, R90, R91, R147: after a plan step each zone's crosspoint sum is 48 samples within full scale, and
silence where every one of its crosspoints has stayed at the floor. Each sample is the sum of the 24 contributions,
held at full scale: a contribution is the crosspoint's tap scaled by its active gain, which moves in amplitude from
the gain before the step to that after it, and by its input's gate gain, which moves from the gain of the step before
to the present one (k parts in 48 at sample k: log 16). The sum is within 2 units, and twice its two amplitudes, for
each contribution that is not silence (the units and the rounding: log 13). The tap is, if STEADY, the input's trimmed
sample (rounded freely: log 12) its delay before the present one, which an INPUT_FRAME of this frame has brought or
has yet to bring (log 14); if MOVING, the two taps at F and T, with k parts in 48 n for T at sample k of the first
step and 48 more in each later one (log 16). Of one crosspoint alone at 0 td the sum is that tap, exactly or within
one unit. The zone puts out the sum, or, where its selector is on the alarm source, that scaled by the alarm level in
effect: each sample beyond full scale then is at full scale, and each other within one unit of the scaled one, or
equal to it where that is a whole number (log 12); and unchanged at a level of 0. Samples are whole numbers (log 11),
and the plan step carries the frame's audio (log 18). -/
def Obligations.ZoneOutputsFollowTheirSelectors : Prop :=
  ∀ (s : State) (audio : AudioFrame), s.powered = true →
    ∃ t, exec (.planFrameStep audio) s = .next t
      ∧ (∀ i, (t.input i).gainUsed = (s.input i).gain)
      ∧ ∀ z, (t.zone z).sum.length = 48 ∧ (∀ x ∈ (t.zone z).sum, x.natAbs ≤ Config.fullScale)
        ∧ ((∀ i, (s.crosspoint (crosspointOf i z)).activeGain = -1000
              ∧ (s.crosspoint (crosspointOf i z)).targetGain = -1000) →
            (t.zone z).sum = List.replicate 48 0)
        ∧ (∀ i, (∀ j, j ≠ i → (s.crosspoint (crosspointOf j z)).activeGain = -1000
                ∧ (s.crosspoint (crosspointOf j z)).targetGain = -1000) →
            (s.crosspoint (crosspointOf i z)).activeGain = 0 → (s.crosspoint (crosspointOf i z)).targetGain = 0 →
            (s.crosspoint (crosspointOf i z)).move = none →
            (s.input i).gain = 0 → (s.input i).gainUsed = 0 →
            ∀ delay, delay = (s.crosspoint (crosspointOf i z)).activeDelay → delay ≤ 16383 →
            ∀ heard : List Int,
              heard = (if (s.input i).frameTaken = true then (s.input i).memory
                else ((audio.inputs.getD i.val []).map (scaleSample (s.input i).settings.trim)).reverse
                  ++ (s.input i).memory) →
              (∀ x ∈ heard, x.natAbs ≤ Config.fullScale) →
              ∀ n, n < 48 → (t.zone z).sum.getD n 0 = heard.getD (47 - n + delay) 0)
        ∧ (∀ i m, (∀ j, j ≠ i → (s.crosspoint (crosspointOf j z)).activeGain = -1000
                ∧ (s.crosspoint (crosspointOf j z)).targetGain = -1000) →
            (s.crosspoint (crosspointOf i z)).activeGain = 0 → (s.crosspoint (crosspointOf i z)).targetGain = 0 →
            (s.crosspoint (crosspointOf i z)).move = some m → m.elapsed < m.length →
            (s.input i).gain = 0 → (s.input i).gainUsed = 0 →
            ∀ delay, delay = (s.crosspoint (crosspointOf i z)).activeDelay → delay ≤ 16383 → m.dest ≤ 16383 →
            ∀ heard : List Int,
              heard = (if (s.input i).frameTaken = true then (s.input i).memory
                else ((audio.inputs.getD i.val []).map (scaleSample (s.input i).settings.trim)).reverse
                  ++ (s.input i).memory) →
              (∀ x ∈ heard, x.natAbs ≤ Config.fullScale) →
              ∀ n : Nat, n < 48 → ∀ whole parts : Int,
                whole = 48 * (m.length : Int) → parts = 48 * (m.elapsed : Int) + (n : Int) + 1 →
                  (whole * (t.zone z).sum.getD n 0
                    - ((whole - parts) * heard.getD (47 - n + delay) 0
                      + parts * heard.getD (47 - n + m.dest) 0)).natAbs < 48 * m.length)
        ∧ (∀ heard : Fin 24 → List Int,
            (∀ i, heard i = (if (s.input i).frameTaken = true then (s.input i).memory
                else ((audio.inputs.getD i.val []).map (scaleSample (s.input i).settings.trim)).reverse
                  ++ (s.input i).memory)) →
            (∀ i, ∀ x ∈ heard i, x.natAbs ≤ Config.fullScale) →
            (∀ i, (s.crosspoint (crosspointOf i z)).activeDelay ≤ 16383) →
            (∀ i m, (s.crosspoint (crosspointOf i z)).move = some m → m.dest ≤ 16383 ∧ m.elapsed < m.length) →
            ∀ amplitudeOf : Int → ℝ,
              (∀ g, amplitudeOf g = if g = -1000 then 0 else (10 : ℝ) ^ ((g : ℝ) / 200)) →
            ∀ moved : Int → Int → Nat → ℝ,
              (∀ before after n, moved before after n
                = (amplitudeOf before * (47 - (n : ℝ)) + amplitudeOf after * ((n : ℝ) + 1)) / 48) →
            ∀ tapped active gate off : Fin 24 → Nat → ℝ,
              (∀ (i : Fin 24) (n : Nat), (s.crosspoint (crosspointOf i z)).move = none →
                tapped i n = (heard i).getD (47 - n + (s.crosspoint (crosspointOf i z)).activeDelay) 0) →
              (∀ (i : Fin 24) (n : Nat) (m : Move), (s.crosspoint (crosspointOf i z)).move = some m →
                ∀ weight : ℝ, weight = (48 * (m.elapsed : ℝ) + (n : ℝ) + 1) / (48 * (m.length : ℝ)) →
                  tapped i n
                    = (1 - weight) * (heard i).getD (47 - n + (s.crosspoint (crosspointOf i z)).activeDelay) 0
                      + weight * (heard i).getD (47 - n + m.dest) 0) →
              (∀ i n, active i n = moved (s.crosspoint (crosspointOf i z)).activeGain
                (t.crosspoint (crosspointOf i z)).activeGain n) →
              (∀ i n, gate i n = moved (s.input i).gainUsed (s.input i).gain n) →
              (∀ i n, off i n = if ((s.crosspoint (crosspointOf i z)).activeGain = -1000
                  ∧ (t.crosspoint (crosspointOf i z)).activeGain = -1000)
                  ∨ ((s.input i).gainUsed = -1000 ∧ (s.input i).gain = -1000) then 0
                else 2 * (active i n + gate i n) + 2) →
                ∀ n : Nat, n < 48 → ∀ exact : ℝ, exact = ∑ i, tapped i n * active i n * gate i n →
                  |((t.zone z).sum.getD n 0 : ℝ) - max (-(Config.fullScale : ℝ)) (min (Config.fullScale : ℝ) exact)|
                    ≤ ∑ i, off i n)
        ∧ ((s.zone z).selected = .crosspointSum → (t.zone z).output = (t.zone z).sum)
        ∧ ((s.zone z).selected = .alarmSource → (s.zone z).levelInEffect = 0 →
            (∀ x ∈ audio.source, x.natAbs ≤ Config.fullScale) → (t.zone z).output = audio.source)
        ∧ ((s.zone z).selected = .alarmSource →
            (t.zone z).output.length = audio.source.length
            ∧ ∀ (n : Nat) (x y : Int), audio.source[n]? = some x → (t.zone z).output[n]? = some y →
                ∀ v : ℝ, v = x * (10 : ℝ) ^ (((s.zone z).levelInEffect : ℝ) / 200) →
                  ((Config.fullScale : ℝ) < |v| → y = x.sign * Config.fullScale)
                  ∧ (|v| ≤ Config.fullScale → |(y : ℝ) - v| < 1 ∧ ∀ k : Int, v = k → y = k))

/-- R72, R110, R113: every step keeps every zone's present trim within its limits, and those of every scene held
sound. -/
def Obligations.TrimsStayWithinTheirLimits : Prop :=
  ∀ s t : State, TrimsWithinLimits s → step s = .next t → TrimsWithinLimits t

/-! ### Panels and the key switch (chapter 6) -/

/-- R105, R106: a filter that has an accepted level and no run takes the other level after exactly as many equal
readings of it as its filter count, at least 1, and a filter with none takes the level of its first so many. A reading
at the accepted level clears the run, and one that differs adds 1 to it; before the first acceptance a reading that
differs from the one before it starts the count at 1 again. So no readings without so many equal ones in a row,
however they bounce, change the accepted level, or give a first one. -/
def Obligations.FiltersAcceptASettledLevel : Prop :=
  ∀ (count n : Nat) (level : Bool), 1 ≤ count →
    (∀ f : LineFilter, f.accepted = some (!level) → f.run = 0 →
      ((List.replicate n level).foldl (fun g x => g.sample count x) f).accepted
        = some (if count ≤ n then level else !level))
    ∧ (((List.replicate n level).foldl (fun g x => g.sample count x) LineFilter.initial).accepted
        = if count ≤ n then some level else none)
    ∧ (∀ (f : LineFilter) (accepted : Bool), f.accepted = some accepted →
        (level = accepted → (f.sample count level).accepted = some accepted ∧ (f.sample count level).run = 0)
        ∧ (level ≠ accepted → f.run + 1 < count →
            (f.sample count level).accepted = some accepted ∧ (f.sample count level).run = f.run + 1)
        ∧ (level ≠ accepted → count ≤ f.run + 1 →
            (f.sample count level).accepted = some level ∧ (f.sample count level).run = 0))
    ∧ (∀ (f : LineFilter) (run : Nat), f.accepted = none →
        run = (if f.last = some level then f.run + 1 else 1) →
        (run < count → (f.sample count level).accepted = none ∧ (f.sample count level).run = run
          ∧ (f.sample count level).last = some level)
        ∧ (count ≤ run → (f.sample count level).accepted = some level ∧ (f.sample count level).run = 0))
    ∧ (∀ (f : LineFilter) (readings : List Bool), f.accepted = some level → f.run = 0 →
        (∀ before later, readings ≠ before ++ List.replicate count (!level) ++ later) →
          (readings.foldl (fun g x => g.sample count x) f).accepted = some level)
    ∧ ∀ readings : List Bool,
        (∀ before l later, readings ≠ before ++ List.replicate count l ++ later) →
          (readings.foldl (fun g x => g.sample count x) LineFilter.initial).accepted = none

/-- R105 to R112: one panel sample. The three lines are filtered by the panel's filter count. Where neither A nor B is
accepted anew, nothing is decoded; where one is and both have levels, the reference state takes the new pair, and
against the old one an edge is added to the accumulator and its detent taken (the statement DetentsTurnTheTrim says
what these do), and an illegal transition raises the illegal count, up to 255, and sets the fault flag, with
PANEL-FAULT where it was clear. A push, Z accepted low after high, on an enabled panel with a target zone then sets
that zone's trim to its default, clears the accumulator and the at-limit flag, and raises PANEL-LEVEL where that takes
the trim up through the panel's threshold; on any other it does nothing. Only that panel's decoder, its target zone's
trim with the gain targets of the plan, and the notices can change; the trim of no zone but the target of an enabled
panel does, and it stays within limits that hold one. -/
def Obligations.PanelSamplesActOnTheirPanel : Prop :=
  ∀ (s : State) (n : Fin 8) (levelA levelB levelZ : Bool), s.powered = true →
    ∃ t, exec (.panelSample n levelA levelB levelZ) s = .next t
      ∧ t = { s with panels := t.panels, zones := t.zones, crosspoints := t.crosspoints, queue := t.queue,
                     overflow := t.overflow }
      ∧ (∀ m, m ≠ n → t.panel m = s.panel m)
      ∧ (t.panel n).scene = (s.panel n).scene ∧ (t.panel n).building = (s.panel n).building
      ∧ (t.panel n).lineA = (s.panel n).lineA.sample (s.panel n).building.filterCount levelA
      ∧ (t.panel n).lineB = (s.panel n).lineB.sample (s.panel n).building.filterCount levelB
      ∧ (t.panel n).lineZ = (s.panel n).lineZ.sample (s.panel n).building.filterCount levelZ
      ∧ ((t.panel n).lineA.accepted = (s.panel n).lineA.accepted →
          (t.panel n).lineB.accepted = (s.panel n).lineB.accepted →
          (t.panel n).reference = (s.panel n).reference ∧ (t.panel n).direction = (s.panel n).direction
          ∧ (t.panel n).illegal = (s.panel n).illegal)
      ∧ (((t.panel n).lineA.accepted ≠ (s.panel n).lineA.accepted
            ∨ (t.panel n).lineB.accepted ≠ (s.panel n).lineB.accepted) →
          ∀ la lb, (t.panel n).lineA.accepted = some la → (t.panel n).lineB.accepted = some lb →
            (t.panel n).reference = some (la, lb))
      ∧ (∀ filtered : Panel,
          filtered = { s.panel n with lineA := (t.panel n).lineA, lineB := (t.panel n).lineB,
                                      lineZ := (t.panel n).lineZ } →
        ∀ changed : Prop,
          (changed ↔ ((t.panel n).lineA.accepted ≠ (s.panel n).lineA.accepted
            ∨ (t.panel n).lineB.accepted ≠ (s.panel n).lineB.accepted)) →
        ∀ push : Prop,
          (push ↔ ((s.panel n).lineZ.accepted = some true ∧ (t.panel n).lineZ.accepted = some false)) →
          (∃ u : State,
            ((¬ changed ∨ (t.panel n).lineA.accepted = none ∨ (t.panel n).lineB.accepted = none) →
              u = s.setPanel n filtered)
            ∧ (∀ la lb, changed → (t.panel n).lineA.accepted = some la → (t.panel n).lineB.accepted = some lb →
              ∀ decoded : Panel, decoded = { filtered with reference := some (la, lb) } →
                ((s.panel n).reference = none → u = s.setPanel n decoded)
                ∧ ∀ old, (s.panel n).reference = some old →
                  (decodePair old (la, lb) = .nothing → u = s.setPanel n decoded)
                  ∧ (decodePair old (la, lb) = .illegal → (s.panel n).fault = true →
                      u = s.setPanel n { decoded with illegal := min 255 ((s.panel n).illegal + 1) })
                  ∧ (decodePair old (la, lb) = .illegal → (s.panel n).fault = false →
                      u = (s.setPanel n { decoded with illegal := min 255 ((s.panel n).illegal + 1),
                                                       fault := true }).raise .panelFault (n.val + 1)
                            (match (s.panel n).scene.zone with | none => 0 | some z => (z.val + 1 : Nat)))
                  ∧ ∀ step p, decodePair old (la, lb) = .edge step →
                      (decoded.addEdge step = (p, none) → u = s.setPanel n p)
                      ∧ ∀ detent, decoded.addEdge step = (p, some detent) →
                          u = (s.setPanel n p).takeDetent n detent)
            ∧ (¬ push → t = u)
            ∧ (push → ((s.panel n).scene.enabled = false ∨ (s.panel n).scene.zone = none) → t = u)
            ∧ (push → ∀ z, (s.panel n).scene = ⟨some z, true⟩ →
                t.panel n = { u.panel n with accumulator := 0, atLimit := false }
                ∧ (t.zone z).trim = (s.zone z).scene.trimDefault
                ∧ Notified u t
                    (if (u.zone z).trim < (s.panel n).building.threshold
                        ∧ (s.panel n).building.threshold ≤ (s.zone z).scene.trimDefault
                     then [(.panelLevel, n.val + 1, (s.zone z).scene.trimDefault)] else [])))
          ∧ (∀ la lb old, changed → (t.panel n).lineA.accepted = some la → (t.panel n).lineB.accepted = some lb →
              (s.panel n).reference = some old → decodePair old (la, lb) = .illegal →
                (t.panel n).illegal = min 255 ((s.panel n).illegal + 1) ∧ (t.panel n).fault = true))
      ∧ (∀ w, t.zone w = { s.zone w with trim := (t.zone w).trim })
      ∧ (∀ w, ¬ ((s.panel n).scene.enabled = true ∧ (s.panel n).scene.zone = some w) →
          t.zone w = s.zone w)
      ∧ (∀ w, (s.zone w).scene.trimMin ≤ (s.zone w).scene.trimDefault →
          (s.zone w).scene.trimDefault ≤ (s.zone w).scene.trimMax →
          (s.zone w).scene.trimMin ≤ (s.zone w).trim → (s.zone w).trim ≤ (s.zone w).scene.trimMax →
          (s.zone w).scene.trimMin ≤ (t.zone w).trim ∧ (t.zone w).trim ≤ (s.zone w).scene.trimMax)
      ∧ ∀ x, t.crosspoint x = { s.crosspoint x with targetGain := (t.crosspoint x).targetGain }

/-- R107 to R111: what an edge does at a panel: a clockwise step of the pair is +1 and an anticlockwise one −1, a
change of both lines is illegal; the edge that takes the accumulator to the panel's edges per detent gives a detent
and clears it; and the detent of an enabled panel with a target zone adds the panel's step to that zone's trim, or
takes it away, within the zone's limits, and sets the at-limit flag where the limits held it. PANEL-LEVEL, with the
panel's number and the new trim, is raised exactly where the trim was below the panel's threshold and is now at it or
above. -/
def Obligations.DetentsTurnTheTrim : Prop :=
  (∀ oldA oldB newA newB : Bool,
      (decodePair (oldA, oldB) (newA, newB) = .illegal ↔ (newA ≠ oldA ∧ newB ≠ oldB))
      ∧ (decodePair (oldA, oldB) (newA, newB) = .nothing ↔ (newA = oldA ∧ newB = oldB))
      ∧ (decodePair (oldA, oldB) (newA, newB) = .edge 1
          ↔ ((newA ≠ oldA ∧ newB = oldB ∧ oldA = oldB) ∨ (newA = oldA ∧ newB ≠ oldB ∧ oldA ≠ oldB)))
      ∧ (decodePair (oldA, oldB) (newA, newB) = .edge (-1)
          ↔ ((newA = oldA ∧ newB ≠ oldB ∧ oldA = oldB) ∨ (newA ≠ oldA ∧ newB = oldB ∧ oldA ≠ oldB))))
    ∧ (∀ (p : Panel) (step : Int),
        ((p.building.edges : Int) ≤ p.accumulator + step →
          p.addEdge step = ({ p with accumulator := 0, direction := .clockwise }, some .clockwise))
        ∧ (p.accumulator + step < (p.building.edges : Int) → p.accumulator + step ≤ -(p.building.edges : Int) →
          p.addEdge step = ({ p with accumulator := 0, direction := .anticlockwise }, some .anticlockwise))
        ∧ (p.accumulator + step < (p.building.edges : Int) → -(p.building.edges : Int) < p.accumulator + step →
          p.addEdge step = ({ p with accumulator := p.accumulator + step }, none)))
    ∧ ∀ (s : State) (n : Fin 8) (z : Fin 16) (detent : Detent) (asked : Int),
        (s.panel n).scene = ⟨some z, true⟩ → (s.zone z).scene.trimMin ≤ (s.zone z).scene.trimMax →
        asked = (match detent with
          | .clockwise => (s.zone z).trim + (s.panel n).building.step
          | .anticlockwise => (s.zone z).trim - (s.panel n).building.step) →
          ((s.takeDetent n detent).zone z).trim
              = max (s.zone z).scene.trimMin (min (s.zone z).scene.trimMax asked)
          ∧ ((s.takeDetent n detent).panel n).atLimit
              = ((s.panel n).atLimit || decide (asked < (s.zone z).scene.trimMin
                  ∨ (s.zone z).scene.trimMax < asked))
          ∧ ∀ new : Int, new = ((s.takeDetent n detent).zone z).trim →
              Notified s (s.takeDetent n detent)
                (if (s.zone z).trim < (s.panel n).building.threshold ∧ (s.panel n).building.threshold ≤ new
                 then [(.panelLevel, n.val + 1, new)] else [])

/-- R114, R115: an accepted PNSET sets the panel's settings, and clears its accumulator where the target zone, the
enabled setting or the edges per detent change. Nothing else of the panel, and no other panel, changes. The reply is
formed in the event of its request (log 26). -/
def Obligations.PnsetSetsAPanel : Prop :=
  ∀ (s : State) (tag : Byte) (n : Fin 8) (scene : PanelScene) (x : PanelBuilding), Ready s .control →
    PanelSent x →
      ∃ t, exec (.pnset tag (byteOf (n.val + 1) ++ panelSettingsBytes scene x)) s = .next t
        ∧ t = { s with panels := t.panels, control := t.control }
        ∧ Replied t .control 0x28 tag (doneUnless (panelTaken x ≠ x)) []
        ∧ (∀ m, m ≠ n → t.panel m = s.panel m)
        ∧ t.panel n
            = { s.panel n with scene, building := panelTaken x,
                               accumulator := if scene = (s.panel n).scene ∧ x.edges = (s.panel n).building.edges
                                              then (s.panel n).accumulator else 0 }

/-- R106, R117, R139, R141, R142: one sample of the key-switch line, filtered by 8 readings. A sample that accepts no
level changes only the filter. A later acceptance raises KEY-SWITCH, with 1 for LOCKED and 0 for OPEN. The first
raises no KEY-SWITCH; it leaves a part that is not DISARMED, or whose auto-arm is off, or whose key is OPEN, as it is;
and it waits for the completion of an ALCF in flight. Otherwise it makes the state ARMED, with ALARM-STATE 2 and the
timer at the full supervision time; a supervision time of 0 expires in the same event, as the statement
SupervisionRunsOutIntoFault says of a timer that stands at 0. -/
def Obligations.KeySwitchSamplesAreFiltered : Prop :=
  ∀ (s : State) (level : Bool), s.powered = true →
    ∃ t, exec (.keySwitchSample level) s = .next t ∧ t.key = s.key.sample 8 level
      ∧ (t.key.accepted = s.key.accepted → t = { s with key := t.key })
      ∧ (∀ old, s.key.accepted = some old → t.key.accepted ≠ s.key.accepted →
          t = { s with key := t.key }.raise .keySwitch 0 (if level then 0 else 1))
      ∧ (s.key.accepted = none → t.key.accepted ≠ none →
          ((∃ x, s.operation = some (.alcf x)) →
            t = { s with key := t.key, alarm := { s.alarm with autoArmDeferred := true } })
          ∧ ((∀ x, s.operation ≠ some (.alcf x)) →
            (s.alarm.state ≠ .disarmed ∨ s.alarm.settings.autoArm = false ∨ level = true) →
              t = { s with key := t.key })
          ∧ ((∀ x, s.operation ≠ some (.alcf x)) → s.alarm.state = .disarmed →
            s.alarm.settings.autoArm = true → level = false → 0 < timeCodeMs s.alarm.settings.code →
              t = { s with key := t.key, alarm := { s.alarm with
                    state := .armed, timer := some ⟨timeCodeMs s.alarm.settings.code, 1⟩ } }.raise .alarmState 0 2)
          ∧ ((∀ x, s.operation ≠ some (.alcf x)) → s.alarm.state = .disarmed →
            s.alarm.settings.autoArm = true → level = false → timeCodeMs s.alarm.settings.code = 0 →
              exec .supervisionExpiry ({ s with key := t.key, alarm := { s.alarm with
                    state := .armed, timer := some ⟨0, 1⟩ } }.raise .alarmState 0 2) = .next t))

/-! ### The stores (chapter 7) -/

/-- R118, R123 to R128, R130, R137: the five store requests, their arguments passed: BUSY with an operation in flight;
LATCH-CLEAR with the latch clear; PROTECTED, which clears the latch, for a target in the protected range; LOCKED where
the alarm state or the key switch does not allow it; and else STARTED, or CLAMPED: the latch clears, the operation is
in flight with the contents of that moment, and its target is INCOMPLETE. STEN sets the latch and STDI clears it. The
reply is formed in the event of its request (log 26). -/
def Obligations.StoreRequestsAreCheckedInOrder : Prop :=
  (∀ (s : State) (tag : Byte) (c : Instr) (op : StoreOp) (kind : Byte) (clamped : Bool), Ready s .control →
      StoreAsked s tag c op kind clamped →
        (s.operation ≠ none →
          ∃ t, exec c s = .next t ∧ t = { s with control := t.control } ∧ Replied t .control kind tag .busy [])
        ∧ (s.operation = none → s.latch = false →
          ∃ t, exec c s = .next t ∧ t = { s with control := t.control }
            ∧ Replied t .control kind tag .latchClear [])
        ∧ (s.operation = none → s.latch = true → InProtectedRange s.guard.level op →
          ∃ t, exec c s = .next t ∧ t = { s with latch := false, control := t.control }
            ∧ Replied t .control kind tag .protected_ [])
        ∧ (s.operation = none → s.latch = true → ¬ InProtectedRange s.guard.level op → LockedOut s op →
          ∃ t, exec c s = .next t ∧ t = { s with control := t.control }
            ∧ Replied t .control kind tag .locked [])
        ∧ (s.operation = none → s.latch = true → ¬ InProtectedRange s.guard.level op → ¬ LockedOut s op →
          ∃ t, exec c s = .next t
            ∧ t = { s with latch := false, operation := some op, store := s.store.begin op,
                           control := t.control }
            ∧ TargetIncomplete t.store op
            ∧ Replied t .control kind tag (if clamped then .clamped else .started) []))
    ∧ ∀ (s : State) (tag : Byte), Ready s .control →
        (∃ t, exec (.sten tag []) s = .next t ∧ t = { s with latch := true, control := t.control }
          ∧ Replied t .control 0x35 tag .done [])
        ∧ (∃ t, exec (.stdi tag []) s = .next t ∧ t = { s with latch := false, control := t.control }
          ∧ Replied t .control 0x36 tag .done [])

/-- R131, R137, R139, R142: the completion of a store operation. The target is VALID with the contents taken, or
EMPTY; a PROT gives the live guard its values and an ALCF the live alarm settings; no operation is in flight; and
STORE-DONE is raised. The completion of an ALCF for which an auto-arm decision waits takes it with the values written:
with auto-arm on, the key switch LOCKED and the state DISARMED the state becomes ARMED with the timer at the full
supervision time and phase 1 expected, and a supervision time of 0 expires in the same event, as the statement
SupervisionRunsOutIntoFault says of a timer that stands at 0; else the state stays. The order of the decision's
notices and STORE-DONE is left open (log 10). Without an operation in flight nothing changes (log 6). -/
def Obligations.StoreCompletionsWriteTheirTarget : Prop :=
  ∀ s : State, s.powered = true →
    (s.operation = none → exec .storeCompletion s = .next s)
    ∧ ((∀ k scene, s.operation = some (.scst k scene) →
        exec .storeCompletion s = .next ({ s with
          operation := none
          store := { s.store with slots := s.store.slots.set k (.valid scene) } }.raise .storeDone k.val 1))
      ∧ (∀ k, s.operation = some (.scer k) →
        exec .storeCompletion s = .next ({ s with
          operation := none
          store := { s.store with slots := s.store.slots.set k .empty } }.raise .storeDone k.val 2))
      ∧ (∀ b, s.operation = some (.bldw b) →
        exec .storeCompletion s = .next ({ s with
          operation := none, store := { s.store with building := .valid b } }.raise .storeDone 64 3))
      ∧ (∀ x, s.operation = some (.alcf x) → s.alarm.autoArmDeferred = false →
        exec .storeCompletion s = .next ({ s with
          operation := none, store := { s.store with alarm := .valid x }
          alarm := { s.alarm with settings := x } }.raise .storeDone 65 4))
      ∧ (∀ x, s.operation = some (.alcf x) → s.alarm.autoArmDeferred = true →
        ∀ u : State, u = { s with
            operation := none, store := { s.store with alarm := .valid x }
            alarm := { s.alarm with settings := x, autoArmDeferred := false } } →
        ∀ arms : Prop,
          (arms ↔ (x.autoArm = true ∧ s.key.accepted = some false ∧ s.alarm.state = .disarmed)) →
          (¬ arms → exec .storeCompletion s = .next (u.raise .storeDone 65 4))
          ∧ (arms → 0 < timeCodeMs x.code →
            ∃ t, exec .storeCompletion s = .next t
              ∧ t = { u with alarm := { u.alarm with state := .armed, timer := some ⟨timeCodeMs x.code, 1⟩ },
                             queue := t.queue, overflow := t.overflow }
              ∧ (Notified s t [(.alarmState, 0, 2), (.storeDone, 65, 4)]
                ∨ Notified s t [(.storeDone, 65, 4), (.alarmState, 0, 2)]))
          ∧ (arms → timeCodeMs x.code = 0 →
            ∃ t v, exec .storeCompletion s = .next t
              ∧ exec .supervisionExpiry
                  { u with alarm := { u.alarm with state := .armed, timer := some ⟨0, 1⟩ } } = .next v
              ∧ t = { v with queue := t.queue, overflow := t.overflow }))
      ∧ ∀ g, s.operation = some (.prot g) →
        exec .storeCompletion s = .next ({ s with
          operation := none, store := { s.store with guard := .valid g }
          guard := g }.raise .storeDone 66 5))

/-- R118, R123, R125, R131: the stored contents change only at the completion of the store operation in flight
and at the acceptance of one, with the latch set, the target outside the protected range in force and nothing
that locks it out, whose target alone becomes INCOMPLETE; and the target of an operation in flight stays
INCOMPLETE. -/
def Obligations.StoresChangeOnlyByStoreOperations : Prop :=
  (∀ (s t : State) (c : Instr), exec c s = .next t → t.store ≠ s.store →
      (∃ op, s.operation = some op ∧ c = .storeCompletion ∧ t.store = s.store.complete op)
      ∨ ∃ op, s.operation = none ∧ t.operation = some op ∧ s.latch = true
          ∧ ¬ InProtectedRange s.guard.level op ∧ ¬ LockedOut s op ∧ t.store = s.store.begin op)
    ∧ ∀ s t : State, InFlightIncomplete s → step s = .next t → InFlightIncomplete t

/-- R42, R115, R119 to R122: an accepted SCRC puts the whole scene of a VALID slot in force, in a part whose join maps
are valid: the live setup is then the scene. The stores, the live geometry, the alarm, the pause flags, the gate
gains, the reversal counts (R42, R122: log 24), the active gains and all of a panel but its scene fields stand; a
change of these clears its accumulator. An input whose area changes, or whose mode does away from GATED, is withdrawn:
it is CLOSED and no entry. In lists that are sound, every other keeps its gate, its count and its entry, with the
scene's priority, unless its entry is one that the new join map or area settings remove; where the join map stays, the
list fits the new max open and no retained entry has to go, none is, and the notices are those of the withdrawals, of
the clamped delay targets and SCENE-RECALLED. Each trim is the scene's default, or, with keep-trims, is kept within
the scene's limits; a recall of mode SNAP leaves every crosspoint at its delay target, and one of mode SMOOTH hands
each its target as R81 and R82 state. SCENE-RECALLED, with the slot and value 1, is raised last. A slot that an
operation in flight writes is BUSY, and one that is EMPTY or INCOMPLETE is refused with EMPTY or DAMAGED. The reply is
formed in the event of its request (log 26). -/
def Obligations.ScrcPutsTheSceneInForce : Prop :=
  ∀ (s : State) (tag : Byte) (k : Fin 64) (snap keep : Bool), Ready s .control →
    ((∃ op, s.operation = some op ∧ ((∃ scene, op = .scst k scene) ∨ op = .scer k)) →
      ∃ t, exec (.scrc tag (byteOf k.val ++ flagByte snap ++ flagByte keep)) s = .next t
        ∧ t = { s with control := t.control } ∧ Replied t .control 0x30 tag .busy [])
    ∧ ((¬ ∃ op, s.operation = some op ∧ ((∃ scene, op = .scst k scene) ∨ op = .scer k)) →
      (s.slot k = .empty →
        ∃ t, exec (.scrc tag (byteOf k.val ++ flagByte snap ++ flagByte keep)) s = .next t
          ∧ t = { s with control := t.control } ∧ Replied t .control 0x30 tag .empty [])
      ∧ (s.slot k = .incomplete →
        ∃ t, exec (.scrc tag (byteOf k.val ++ flagByte snap ++ flagByte keep)) s = .next t
          ∧ t = { s with control := t.control } ∧ Replied t .control 0x30 tag .damaged [])
      ∧ ∀ scene, s.slot k = .valid scene → MapsValid s →
        ∃ t, exec (.scrc tag (byteOf k.val ++ flagByte snap ++ flagByte keep)) s = .next t
          ∧ t = { s with inputs := t.inputs, areas := t.areas, crosspoints := t.crosspoints, zones := t.zones,
                         panels := t.panels, queue := t.queue, overflow := t.overflow, control := t.control }
          ∧ Replied t .control 0x30 tag .done []
          ∧ t.liveSetup scene.label = scene
          ∧ (∀ l, (t.area l).paused = (s.area l).paused ∧ (t.area l).tickTaken = (s.area l).tickTaken)
          ∧ (∀ i, SameSignal (s.input i) (t.input i) ∧ (t.input i).reversals = (s.input i).reversals)
          ∧ (∃ u : State, u.subscribed = s.subscribed ∧ u.stamp = s.stamp ∧ s.queue <+: u.queue
              ∧ Notified u t [(.sceneRecalled, k.val, 1)])
          ∧ (∀ x, (t.crosspoint x).activeGain = (s.crosspoint x).activeGain)
          ∧ (∀ n, t.panel n = { s.panel n with
              scene := scene.panels.get n
              accumulator := if scene.panels.get n = (s.panel n).scene then (s.panel n).accumulator else 0 })
          ∧ (∀ leaves : Fin 24 → Bool,
              (∀ i, leaves i = true ↔ ((s.input i).settings.area ≠ (scene.inputs.get i).area
                ∨ ((s.input i).settings.mode = .gated ∧ (scene.inputs.get i).mode ≠ .gated))) →
              (∀ i, leaves i = true → (t.input i).gate = .closed ∧ (t.input i).qualifying = 0)
              ∧ (ListsSound s →
                (∀ i, leaves i = true → t.isEntry i = false)
                ∧ (∀ i, leaves i = false → s.isEntry i = false → t.isEntry i = false
                    ∧ (t.input i).gate = (s.input i).gate ∧ (t.input i).qualifying = (s.input i).qualifying)
                ∧ (∀ i, leaves i = false → s.isEntry i = true →
                    (t.isEntry i = true
                      ∧ (t.input i).gate = (s.input i).gate ∧ (t.input i).qualifying = (s.input i).qualifying
                      ∧ ∀ l e, e ∈ (s.area l).list → e.input = i →
                          ∃ m e', e' ∈ (t.area m).list
                            ∧ e' = { e with priority := (scene.inputs.get i).priority, ticked := e'.ticked })
                    ∨ (t.isEntry i = false ∧ (t.input i).gate = .closed ∧ (t.input i).qualifying = 0))
                ∧ ((∀ l, (s.area l).joinedInto = scene.joins.get (areaIndex l)) →
                    (∀ l, ((s.area l).list.filter fun e => !leaves e.input).length
                      ≤ (scene.areas.get (areaIndex l)).maxOpen) →
                    (∀ l e, e ∈ (s.area l).list → e.retained = true →
                      (scene.areas.get (areaIndex l)).lastMicHold = true
                      ∧ ¬ ((s.area l).paused = true ∧ (scene.areas.get (areaIndex l)).pauseMode = .drain)) →
                    (∀ l, (t.area l).list = ((s.area l).list.filter fun e => !leaves e.input).map fun e =>
                        { e with priority := (scene.inputs.get e.input).priority })
                    ∧ (∀ i, leaves i = false →
                        (t.input i).gate = (s.input i).gate ∧ (t.input i).qualifying = (s.input i).qualifying)
                    ∧ Notified s t (withdrawalNotices s leaves ++ clampedNotices t (fun _ => true)
                        ++ [(.sceneRecalled, k.val, 1)]))))
          ∧ (∀ z, (t.zone z).geometry = (s.zone z).geometry ∧ (t.zone z).selector = (s.zone z).selector)
          ∧ (keep = false → ∀ z, (t.zone z).trim = (scene.zones.get z).trimDefault)
          ∧ (keep = true → ∀ z, (scene.zones.get z).trimMin ≤ (scene.zones.get z).trimMax →
              (t.zone z).trim
                = max (scene.zones.get z).trimMin (min (scene.zones.get z).trimMax (s.zone z).trim))
          ∧ (snap = false → ∀ x, Retimed t x (s.crosspoint x) (t.crosspoint x))
          ∧ (snap = true → ∀ x, (t.crosspoint x).activeDelay = (t.crosspoint x).targetDelay
              ∧ (t.crosspoint x).move = none ∧ (t.crosspoint x).pendingDelay = none)
          ∧ PlanComposed t ∧ GateTargetsCurrent t)

/-! ### The alarm (chapter 8) -/

/-- R140 to R142, Table 8-3: ARM1 and ARM2 by the alarm state. An entry to ARMED, with a supervision time above 0,
loads the timer with the full duration and expects phase 1; with a supervision time of 0 its expiry is taken in the
same event, as the statement SupervisionRunsOutIntoFault says of a timer that stands at 0. A request turned away
changes nothing. The reply is formed in the event of its request (log 26). -/
def Obligations.ArmingGoesThroughPrimed : Prop :=
  ∀ (s : State) (tag : Byte) (enable : Bool), Ready s .control →
    (s.alarm.state = .disarmed → (∃ x, s.operation = some (.alcf x)) →
      ∃ t, exec (.arm1 tag []) s = .next t ∧ t = { s with control := t.control }
        ∧ Replied t .control 0x3A tag .busy [])
    ∧ (s.alarm.state = .disarmed → (∀ x, s.operation ≠ some (.alcf x)) →
      ∃ t, exec (.arm1 tag []) s = .next t ∧ t.alarm = { s.alarm with state := .primed }
        ∧ t = { { s with alarm := t.alarm }.raise .alarmState 0 1 with control := t.control }
        ∧ Replied t .control 0x3A tag .done [])
    ∧ (s.alarm.state = .primed →
      ∃ t, exec (.arm1 tag []) s = .next t ∧ t = { s with control := t.control }
        ∧ Replied t .control 0x3A tag .done [])
    ∧ (s.alarm.state = .armed ∨ s.alarm.state = .fault →
      (∃ t, exec (.arm1 tag []) s = .next t ∧ t = { s with control := t.control }
        ∧ Replied t .control 0x3A tag .locked [])
      ∧ ∃ t, exec (.arm2 tag (flagByte enable)) s = .next t ∧ t = { s with control := t.control }
        ∧ Replied t .control 0x3B tag .locked [])
    ∧ (s.alarm.state = .disarmed →
      ∃ t, exec (.arm2 tag (flagByte enable)) s = .next t ∧ t = { s with control := t.control }
        ∧ Replied t .control 0x3B tag .order [])
    ∧ (s.alarm.state = .primed → enable = false →
      ∃ t, exec (.arm2 tag (flagByte enable)) s = .next t
        ∧ t.alarm = { s.alarm with state := .disarmed }
        ∧ t = { { s with alarm := t.alarm }.raise .alarmState 0 0 with control := t.control }
        ∧ Replied t .control 0x3B tag .done [])
    ∧ (s.alarm.state = .primed → enable = true → 0 < timeCodeMs s.alarm.settings.code →
      ∃ t, exec (.arm2 tag (flagByte enable)) s = .next t
        ∧ t.alarm = { s.alarm with state := .armed, timer := some ⟨timeCodeMs s.alarm.settings.code, 1⟩ }
        ∧ t = { { s with alarm := t.alarm }.raise .alarmState 0 2 with control := t.control }
        ∧ Replied t .control 0x3B tag .done [])
    ∧ (s.alarm.state = .primed → enable = true → timeCodeMs s.alarm.settings.code = 0 →
      ∃ t u, exec (.arm2 tag (flagByte enable)) s = .next t
        ∧ exec .supervisionExpiry ({ s with alarm := { s.alarm with
              state := .armed, timer := some ⟨0, 1⟩ } }.raise .alarmState 0 2) = .next u
        ∧ t = { u with control := t.control } ∧ Replied t .control 0x3B tag .done [])

/-- R143, R145: a supervision message in ARMED: phase 1 where it is expected makes 2 the expected phase; phase 2 where
it is expected loads the timer anew; any other value makes the state FAULT at once, with ALARM-STATE 3 and
SUPERVISION-FAULT 512, and is answered ORDER. In any other state it is answered ORDER and changes nothing. The reply
is formed in the event of its request (log 26). -/
def Obligations.SupervisionMessagesAlternate : Prop :=
  ∀ (s : State) (tag phase : Byte), Ready s .safety →
    (s.alarm.state ≠ .armed →
      ∃ t, exec (.supv tag [phase]) s = .next t ∧ t = { s with safety := t.safety }
        ∧ Replied t .safety 0x52 tag .order [])
    ∧ ∀ left expected, s.alarm.state = .armed → s.alarm.timer = some ⟨left, expected⟩ →
      (expected = 1 → phase = 1 →
        ∃ t, exec (.supv tag [phase]) s = .next t
          ∧ t = { s with alarm := { s.alarm with timer := some ⟨left, 2⟩ }, safety := t.safety }
          ∧ Replied t .safety 0x52 tag .done [])
      ∧ (expected = 2 → phase = 2 →
        ∃ t, exec (.supv tag [phase]) s = .next t
          ∧ t = { s with alarm := { s.alarm with timer := some ⟨timeCodeMs s.alarm.settings.code, 1⟩ },
                         safety := t.safety }
          ∧ Replied t .safety 0x52 tag .done [])
      ∧ (¬ (expected = 1 ∧ phase = 1) → ¬ (expected = 2 ∧ phase = 2) →
        ∃ t, exec (.supv tag [phase]) s = .next t
          ∧ t.alarm = { s.alarm with state := .fault, timer := none, faultCause := some .outOfSequence,
                                     actionTaken := some .noAction }
          ∧ t = { ({ s with alarm := t.alarm }.raise .alarmState 0 3).raise .supervisionFault 0 512 with
                  safety := t.safety }
          ∧ Replied t .safety 0x52 tag .order [])

/-- R88, R146, R147, R149: ALON and ALOF by the override cause. ALON from NONE sets every selector to the alarm source
and raises OVERRIDE 1; from any other cause it changes nothing. ALOF from ALARM makes the floor reset, sets every
selector to the crosspoint sum and raises OVERRIDE 0; from any other cause it is refused with ORDER. The reply is
formed in the event of its request (log 26). -/
def Obligations.AlonAndAlofHoldTheOutputs : Prop :=
  ∀ (s : State) (tag : Byte), Ready s .safety →
    (s.alarm.cause = .noCause →
      ∃ t, exec (.alon tag []) s = .next t ∧ t.alarm = { s.alarm with cause := .alarm }
        ∧ (∀ z, t.zone z = { s.zone z with selector := .alarmSource })
        ∧ t = { { s with alarm := t.alarm, zones := t.zones }.raise .override 0 1 with safety := t.safety }
        ∧ Replied t .safety 0x50 tag .done [])
    ∧ (s.alarm.cause ≠ .noCause →
      ∃ t, exec (.alon tag []) s = .next t ∧ t = { s with safety := t.safety }
        ∧ Replied t .safety 0x50 tag .done [])
    ∧ (s.alarm.cause = .alarm →
      ∃ t, exec (.alof tag []) s = .next t ∧ t.alarm = { s.alarm with cause := .noCause }
        ∧ (∀ z, t.zone z = { s.zone z with selector := .crosspointSum })
        ∧ (∀ x, t.crosspoint x
            = { s.crosspoint x with activeGain := -1000, activeDelay := (s.crosspoint x).targetDelay,
                                    move := none, pendingDelay := none })
        ∧ t = { { s with alarm := t.alarm, zones := t.zones, crosspoints := t.crosspoints }.raise .override 0 0
                with safety := t.safety }
        ∧ Replied t .safety 0x51 tag .done [])
    ∧ (s.alarm.cause ≠ .alarm →
      ∃ t, exec (.alof tag []) s = .next t ∧ t = { s with safety := t.safety }
        ∧ Replied t .safety 0x51 tag .order [])

/-- R142, R144, R145, R147: the supervision timer. Outside ARMED a tick changes nothing; in ARMED it takes the
time remaining down by 1, and at 0 takes the expiry: FAULT with fault cause EXPIRY, ALARM-STATE 3 and then
SUPERVISION-FAULT, and the expiry action: REPORT nothing more, ALERT the override cause EXPIRY with every selector
on the alarm source and OVERRIDE 2, FALLBACK no recall where the fallback slot is not VALID. SUPERVISION_EXPIRY
takes the expiry of a timer that stands at 0, and is otherwise not due (log 6). -/
def Obligations.SupervisionRunsOutIntoFault : Prop :=
  ∀ s : State, s.powered = true →
    (s.alarm.state ≠ .armed → exec .supervisionTick s = .next s ∧ exec .supervisionExpiry s = .next s)
    ∧ ∀ left expected, s.alarm.state = .armed → s.alarm.timer = some ⟨left, expected⟩ →
      (2 ≤ left → exec .supervisionTick s
        = .next { s with alarm := { s.alarm with timer := some ⟨left - 1, expected⟩ } })
      ∧ (1 ≤ left → exec .supervisionExpiry s = .next s)
      ∧ ∀ c, (left = 1 ∧ c = .supervisionTick) ∨ (left = 0 ∧ c = .supervisionExpiry) →
        (s.alarm.settings.action = .report →
          ∃ t, exec c s = .next t
            ∧ t.alarm = { s.alarm with state := .fault, timer := none, faultCause := some .expiry,
                                       actionTaken := some .report }
            ∧ t = ({ s with alarm := t.alarm }.raise .alarmState 0 3).raise .supervisionFault 0 257)
        ∧ (s.alarm.settings.action = .fallback →
          (∀ k, s.alarm.settings.fallback = some k → ∀ scene, s.slot k ≠ .valid scene) →
          ∃ t, exec c s = .next t
            ∧ t.alarm = { s.alarm with state := .fault, timer := none, faultCause := some .expiry,
                                       actionTaken := some .fallbackNotMade }
            ∧ t = ({ s with alarm := t.alarm }.raise .alarmState 0 3).raise .supervisionFault 0 259)
        ∧ (∀ k scene, s.alarm.settings.action = .fallback → s.alarm.settings.fallback = some k →
          s.slot k = .valid scene →
          ∃ t, exec c s = .next t
            ∧ t.alarm = { s.alarm with state := .fault, timer := none, faultCause := some .expiry,
                                       actionTaken := some .fallbackMade }
            ∧ t = (({ s with alarm := t.alarm }.raise .alarmState 0 3).raise .supervisionFault 0 258).recall
                k scene .smooth false .fallback)
        ∧ (s.alarm.settings.action = .alert → s.alarm.cause = .noCause →
          ∃ t, exec c s = .next t
            ∧ t.alarm = { s.alarm with state := .fault, timer := none, faultCause := some .expiry,
                                       actionTaken := some .alert, cause := .expiry }
            ∧ (∀ z, t.zone z = { s.zone z with selector := .alarmSource })
            ∧ t = (({ s with alarm := t.alarm, zones := t.zones }.raise .alarmState 0 3).raise
                .supervisionFault 0 260).raise .override 0 2)
        ∧ (s.alarm.settings.action = .alert → s.alarm.cause ≠ .noCause →
          ∃ t, exec c s = .next t
            ∧ t.alarm = { s.alarm with state := .fault, timer := none, faultCause := some .expiry,
                                       actionTaken := some .alert, cause := .expiry }
            ∧ t = (({ s with alarm := t.alarm }.raise .alarmState 0 3).raise .supervisionFault 0 260).raise
                .override 0 2)

/-- R138, R139, R142, R147, R149: every step keeps the Alarm Override Unit sound: the timer runs exactly in ARMED
and expects phase 1 or 2, a fault cause and an action taken are held exactly in FAULT, and the selectors are on
the alarm source exactly while the override cause is not NONE. -/
def Obligations.AlarmUnitStaysSound : Prop :=
  ∀ s t : State, AlarmSound s → step s = .next t → AlarmSound t

/-- R139, R144 to R146: once ARMED, the alarm state becomes DISARMED or PRIMED again only through a start-up; a
start-up apart, FAULT is never left, its cause and action stand, and an override cause of EXPIRY is never left. A
power loss ends the run of the part, and is left out with the start-ups. -/
def Obligations.OnlyAStartUpLeavesFault : Prop :=
  ∀ (s t : State) (c : Instr), exec c s = .next t → ¬ StartsOver c →
    (s.alarm.state = .armed → t.alarm.state = .armed ∨ t.alarm.state = .fault)
    ∧ (s.alarm.state = .fault → t.alarm.state = .fault ∧ t.alarm.faultCause = s.alarm.faultCause
        ∧ t.alarm.actionTaken = s.alarm.actionTaken)
    ∧ (s.alarm.cause = .expiry → t.alarm.cause = .expiry)

/-- The state that the model takes as reset (log 3) meets every invariant stated here. -/
def Obligations.ResetMeetsEveryInvariant : Prop :=
  QueueBounded State.reset ∧ PlanRecordsSound State.reset ∧ DelayTargetsCurrent State.reset
    ∧ DetectorsInRange State.reset ∧ ListsSound State.reset ∧ MapsValid State.reset
    ∧ GateTargetsCurrent State.reset ∧ NomCurrent State.reset ∧ PlanComposed State.reset
    ∧ TrimsWithinLimits State.reset ∧ InFlightIncomplete State.reset ∧ AlarmSound State.reset
end

