-- ==== Sys2Proof/Laws/Arrivals.lean ====
section
/-! SUPPORT. What the arrival of a delay target at a crosspoint, of a gate-gain target at an input, and of an entry
at a list can do. -/

namespace Sys2Proof.Machine

open Sys2Proof.Safety

/-! ### A delay target at a crosspoint (R80 to R82) -/

section
variable (p : Crosspoint) (inaudible : Bool) (frames target : Nat)

@[simp] theorem arrive_live : (p.arrive inaudible frames target).live = p.live := by
  unfold Crosspoint.arrive; split <;> [split <;> [rfl; split <;> rfl]; rfl]
@[simp] theorem arrive_send : (p.arrive inaudible frames target).send = p.send := by
  unfold Crosspoint.arrive; split <;> [split <;> [rfl; split <;> rfl]; rfl]
@[simp] theorem arrive_targetGain : (p.arrive inaudible frames target).targetGain = p.targetGain := by
  unfold Crosspoint.arrive; split <;> [split <;> [rfl; split <;> rfl]; rfl]
@[simp] theorem arrive_activeGain : (p.arrive inaudible frames target).activeGain = p.activeGain := by
  unfold Crosspoint.arrive; split <;> [split <;> [rfl; split <;> rfl]; rfl]
@[simp] theorem arrive_clamp : (p.arrive inaudible frames target).clamp = p.clamp := by
  unfold Crosspoint.arrive; split <;> [split <;> [rfl; split <;> rfl]; rfl]
@[simp] theorem arrive_targetDelay : (p.arrive inaudible frames target).targetDelay = target := by
  unfold Crosspoint.arrive; split <;> [split <;> [rfl; split <;> rfl]; rfl]

/-- All that an arrival does to the delays of a crosspoint. -/
theorem arrive_targetArrived :
    TargetArrived (inaudible = true) frames target p (p.arrive inaudible frames target) := by
  refine ⟨arrive_targetDelay .., fun steady => ?_, fun m moving => ?_⟩
  · simp only [Crosspoint.arrive, steady]
    split
    · simp_all
    · split
      · rename_i snaps
        exact ⟨rfl, fun h => absurd h ‹_›, fun _ _ => ⟨rfl, rfl⟩,
          fun _ h k => (snaps.elim h k).elim⟩
      · simp_all
  · simp only [Crosspoint.arrive, moving]
    split <;> simp_all

end

/-- A recompute hands the crosspoint the target and the clamp flag of the live geometry, and no gain changes. -/
theorem retimed_retimed (s : State) (x : Fin 384) (p : Crosspoint) :
    Retimed s x p (s.retimed x p) ∧ SameGains p (s.retimed x p) := by
  have h : (s.inaudible x p = true) = Inaudible s x p := by
    simp [State.inaudible, Inaudible]
  refine ⟨⟨?_, by simp [State.retimed]⟩, by simp [SameGains, State.retimed]⟩
  have := arrive_targetArrived p (s.inaudible x p) (s.moveFrames (zoneOf x)) (min (s.delaySumOf x) 16383)
  rwa [h] at this

/-! ### A gate-gain target at an input (R36, R39) -/

section
variable (x : Input) (target : Int)

@[simp] theorem aim_settings : (x.aim target).settings = x.settings := rfl
@[simp] theorem aim_gate : (x.aim target).gate = x.gate := rfl
@[simp] theorem aim_qualifying : (x.aim target).qualifying = x.qualifying := rfl
@[simp] theorem aim_target : (x.aim target).target = target := rfl

/-- A target counts as a reversal where it turns a ramping gate gain, and changes nothing else of the input. -/
theorem aim_reversalCounted :
    ReversalCounted x (x.aim target)
      ∧ x.aim target = { x with target, reversals := (x.aim target).reversals } := by
  refine ⟨?_, rfl⟩
  simp [ReversalCounted, Input.aim, Input.reverses]

end

/-! ### An entry at a list (R102) -/

section
variable (u : AreaUnit) (e : Entry)

@[simp] theorem moved_input : (u.moved e).input = e.input := rfl
@[simp] theorem moved_priority : (u.moved e).priority = e.priority := rfl
@[simp] theorem moved_stamp : (u.moved e).stamp = e.stamp := rfl
@[simp] theorem moved_retained : (u.moved e).retained = e.retained := rfl
@[simp] theorem moved_hold : (u.moved e).hold = e.hold := rfl
@[simp] theorem moved_openingLevel : (u.moved e).openingLevel = e.openingLevel := rfl
@[simp] theorem moved_ticked : (u.moved e).ticked = (e.ticked || u.tickTaken) := rfl

/-- A move names the same inputs in the same order. -/
theorem moved_inputs (entries : List Entry) :
    (entries.map u.moved).map (fun e => e.input) = entries.map fun e => e.input := by
  simp

end

end Sys2Proof.Machine
end

