-- ==== Sys2Proof/Laws/Departures.lean ====
section
/-! SUPPORT. What the entries that leave a list are: those of the list, as many as asked for, one notice each. -/

namespace Sys2Proof.Safety

open Sys2Proof.Machine

theorem firstVictim_mem (s : State) {e : Entry} : ∀ {entries : List Entry}, s.firstVictim entries = some e → e ∈ entries
  | [], h => by simp [State.firstVictim] at h
  | f :: rest, h => by
    simp only [State.firstVictim] at h
    split at h
    · cases h; exact List.mem_cons_self
    · next g hg =>
      split at h
      · cases h; exact List.mem_cons_of_mem _ (firstVictim_mem s hg)
      · cases h; exact List.mem_cons_self

theorem victims_length_le (s : State) : ∀ (n : Nat) (entries : List Entry), (victims s n entries).length ≤ n
  | 0, _ => Nat.le_refl _
  | n + 1, entries => by
    unfold victims
    split
    · exact Nat.zero_le _
    · exact Nat.succ_le_succ (victims_length_le s n _)

theorem victims_mem (s : State) {e : Entry} : ∀ {n : Nat} {entries : List Entry}, e ∈ victims s n entries → e ∈ entries
  | 0, _, h => by simp [victims] at h
  | n + 1, entries, h => by
    unfold victims at h
    split at h
    · cases h
    · next f hf =>
      rcases List.mem_cons.mp h with rfl | h
      · exact firstVictim_mem s hf
      · exact List.mem_of_mem_eraseP (victims_mem s h)

@[simp] theorem without_nil (entries : List Entry) : without entries [] = entries := by simp [without]

theorem mem_without {entries leaving : List Entry} {e : Entry} :
    e ∈ without entries leaving ↔ e ∈ entries ∧ ∀ f ∈ leaving, f.input ≠ e.input := by simp [without]

/-- Entries that leave in two parts leave one part after the other. -/
theorem without_append (entries first second : List Entry) :
    without entries (first ++ second) = without (without entries first) second := by
  simp [without, List.filter_filter, Bool.and_comm]

@[simp] theorem departures_length (k : Area) (reason : Nat) :
    ∀ (length : Nat) (entries : List Entry), (departures k reason length entries).length = entries.length
  | _, [] => rfl
  | length, _ :: rest => congrArg (· + 1) (departures_length k reason (length - 1) rest)

/-- Where nothing leaves, every gate and count stands. -/
theorem departed_nil {s t : State} :
    Departed s t [] ↔
      ∀ i, (t.input i).gate = (s.input i).gate ∧ (t.input i).qualifying = (s.input i).qualifying := by
  simp [Departed]

@[simp] theorem expiriesInTurn_nil (retains : Entry → Bool) (standing : List Entry) :
    expiriesInTurn retains [] standing = (standing, []) := rfl

/-- Only entries whose holds end leave. -/
theorem mem_of_mem_expired (retains : Entry → Bool) {e : Entry} :
    ∀ {ended standing : List Entry}, e ∈ (expiriesInTurn retains ended standing).2 → e ∈ ended
  | [], _, h => by cases h
  | f :: later, standing, h => by
    unfold expiriesInTurn at h
    split at h
    · exact List.mem_cons_of_mem _ (mem_of_mem_expired retains h)
    · rcases List.mem_cons.mp h with rfl | h
      · exact List.mem_cons_self
      · exact List.mem_cons_of_mem _ (mem_of_mem_expired retains h)

/-- No more entries leave than there are holds that end. -/
theorem expired_length_le (retains : Entry → Bool) :
    ∀ ended standing : List Entry, (expiriesInTurn retains ended standing).2.length ≤ ended.length
  | [], _ => Nat.le_refl _
  | _ :: later, standing => by
    unfold expiriesInTurn
    split
    · exact Nat.le_succ_of_le (expired_length_le retains later _)
    · exact Nat.succ_le_succ (expired_length_le retains later _)

theorem ListEvent.refl (s : State) : ListEvent s s := ⟨fun _ => rfl, fun _ => rfl⟩

/-- What two events at the lists leave, both together leave. -/
theorem ListEvent.trans {s t u : State} (st : ListEvent s t) (tu : ListEvent t u) : ListEvent s u := by
  refine ⟨fun j => ?_, fun y => ?_⟩
  · rw [tu.1 j, st.1 j]
  · rw [tu.2 y, st.2 y]

end Sys2Proof.Safety
end

