-- ==== Sys2Proof/Laws/Table.lean ====
section
/-! SUPPORT. Reading a table after each way of making one. -/

namespace Sys2Proof.Machine.Table

variable {α β : Type} {n : Nat}

@[simp] theorem get_set_self (t : Table α n) (i : Fin n) (x : α) : (t.set i x).get i = x := by
  simp [get, set]

@[simp] theorem get_set_ne (t : Table α n) {i j : Fin n} (x : α) (h : i ≠ j) :
    (t.set i x).get j = t.get j := by
  simp [get, set, Fin.val_ne_of_ne h]

theorem get_set (t : Table α n) (i j : Fin n) (x : α) :
    (t.set i x).get j = if i = j then x else t.get j := by
  split
  · subst_vars; simp
  · simp [*]

@[simp] theorem get_mapIdx (t : Table α n) (f : Fin n → α → β) (i : Fin n) :
    (t.mapIdx f).get i = f i (t.get i) := by
  simp [get, mapIdx]

@[simp] theorem get_replicate (i : Fin n) (x : α) : (replicate n x).get i = x := by
  simp [get, replicate]

@[simp] theorem get_ofFn (f : Fin n → α) (i : Fin n) : (ofFn f).get i = f i := by
  simp [get, ofFn]

/-- Tables with equal entries are equal. -/
theorem ext_get {t u : Table α n} (h : ∀ i, t.get i = u.get i) : t = u := by
  cases t with | mk r hr => cases u with | mk r' hr' =>
    simp only [Table.mk.injEq]
    apply List.ext_getElem (by omega)
    intro i h1 h2
    exact h ⟨i, by omega⟩

@[simp] theorem set_get (t : Table α n) (i : Fin n) : t.set i (t.get i) = t :=
  ext_get fun j => by rw [get_set]; split <;> simp_all

@[simp] theorem length_rows (t : Table α n) : t.rows.length = n := t.size

end Sys2Proof.Machine.Table
end

