-- ==== Sys2Proof/Laws/State.lean ====
section
/-! SUPPORT. What each writing operation of Machine/Ops.lean leaves in each field, and what reading one thing
after writing another gives. -/

namespace Sys2Proof.Machine

variable (s : State)


/-! ### `setInput` -/

@[simp] theorem setInput_powered (i : Fin 24) (y : Input) : (s.setInput i y).powered = s.powered := rfl
@[simp] theorem setInput_control (i : Fin 24) (y : Input) : (s.setInput i y).control = s.control := rfl
@[simp] theorem setInput_safety (i : Fin 24) (y : Input) : (s.setInput i y).safety = s.safety := rfl
@[simp] theorem setInput_queue (i : Fin 24) (y : Input) : (s.setInput i y).queue = s.queue := rfl
@[simp] theorem setInput_overflow (i : Fin 24) (y : Input) : (s.setInput i y).overflow = s.overflow := rfl
@[simp] theorem setInput_subscribed (i : Fin 24) (y : Input) : (s.setInput i y).subscribed = s.subscribed := rfl
@[simp] theorem setInput_stamp (i : Fin 24) (y : Input) : (s.setInput i y).stamp = s.stamp := rfl
@[simp] theorem setInput_restartAccepted (i : Fin 24) (y : Input) : (s.setInput i y).restartAccepted = s.restartAccepted := rfl
@[simp] theorem setInput_stations (i : Fin 24) (y : Input) : (s.setInput i y).stations = s.stations := rfl
@[simp] theorem setInput_reported (i : Fin 24) (y : Input) : (s.setInput i y).reported = s.reported := rfl
@[simp] theorem setInput_used (i : Fin 24) (y : Input) : (s.setInput i y).used = s.used := rfl
@[simp] theorem setInput_defaultTemp (i : Fin 24) (y : Input) : (s.setInput i y).defaultTemp = s.defaultTemp := rfl
@[simp] theorem setInput_climateStep (i : Fin 24) (y : Input) : (s.setInput i y).climateStep = s.climateStep := rfl
@[simp] theorem setInput_areas (i : Fin 24) (y : Input) : (s.setInput i y).areas = s.areas := rfl
@[simp] theorem setInput_crosspoints (i : Fin 24) (y : Input) : (s.setInput i y).crosspoints = s.crosspoints := rfl
@[simp] theorem setInput_zones (i : Fin 24) (y : Input) : (s.setInput i y).zones = s.zones := rfl
@[simp] theorem setInput_panels (i : Fin 24) (y : Input) : (s.setInput i y).panels = s.panels := rfl
@[simp] theorem setInput_key (i : Fin 24) (y : Input) : (s.setInput i y).key = s.key := rfl
@[simp] theorem setInput_store (i : Fin 24) (y : Input) : (s.setInput i y).store = s.store := rfl
@[simp] theorem setInput_latch (i : Fin 24) (y : Input) : (s.setInput i y).latch = s.latch := rfl
@[simp] theorem setInput_operation (i : Fin 24) (y : Input) : (s.setInput i y).operation = s.operation := rfl
@[simp] theorem setInput_guard (i : Fin 24) (y : Input) : (s.setInput i y).guard = s.guard := rfl
@[simp] theorem setInput_alarm (i : Fin 24) (y : Input) : (s.setInput i y).alarm = s.alarm := rfl
@[simp] theorem setInput_pending (i : Fin 24) (y : Input) : (s.setInput i y).pending = s.pending := rfl
@[simp] theorem setInput_area_other (i : Fin 24) (y : Input) (k' : Area) : (s.setInput i y).area k' = s.area k' := rfl
@[simp] theorem setInput_crosspoint_other (i : Fin 24) (y : Input) (x' : Fin 384) : (s.setInput i y).crosspoint x' = s.crosspoint x' := rfl
@[simp] theorem setInput_zone_other (i : Fin 24) (y : Input) (z' : Fin 16) : (s.setInput i y).zone z' = s.zone z' := rfl
@[simp] theorem setInput_panel_other (i : Fin 24) (y : Input) (n' : Fin 8) : (s.setInput i y).panel n' = s.panel n' := rfl
@[simp] theorem setInput_station_other (i : Fin 24) (y : Input) (n' : Fin 32) : (s.setInput i y).station n' = s.station n' := rfl
@[simp] theorem setInput_slot_other (i : Fin 24) (y : Input) (k' : Fin 64) : (s.setInput i y).slot k' = s.slot k' := rfl
@[simp] theorem setInput_line_other (i : Fin 24) (y : Input) (l' : Line) : (s.setInput i y).line l' = s.line l' := by cases l' <;> rfl

/-! ### `setArea` -/

@[simp] theorem setArea_powered (k : Area) (u : AreaUnit) : (s.setArea k u).powered = s.powered := rfl
@[simp] theorem setArea_control (k : Area) (u : AreaUnit) : (s.setArea k u).control = s.control := rfl
@[simp] theorem setArea_safety (k : Area) (u : AreaUnit) : (s.setArea k u).safety = s.safety := rfl
@[simp] theorem setArea_queue (k : Area) (u : AreaUnit) : (s.setArea k u).queue = s.queue := rfl
@[simp] theorem setArea_overflow (k : Area) (u : AreaUnit) : (s.setArea k u).overflow = s.overflow := rfl
@[simp] theorem setArea_subscribed (k : Area) (u : AreaUnit) : (s.setArea k u).subscribed = s.subscribed := rfl
@[simp] theorem setArea_stamp (k : Area) (u : AreaUnit) : (s.setArea k u).stamp = s.stamp := rfl
@[simp] theorem setArea_restartAccepted (k : Area) (u : AreaUnit) : (s.setArea k u).restartAccepted = s.restartAccepted := rfl
@[simp] theorem setArea_stations (k : Area) (u : AreaUnit) : (s.setArea k u).stations = s.stations := rfl
@[simp] theorem setArea_reported (k : Area) (u : AreaUnit) : (s.setArea k u).reported = s.reported := rfl
@[simp] theorem setArea_used (k : Area) (u : AreaUnit) : (s.setArea k u).used = s.used := rfl
@[simp] theorem setArea_defaultTemp (k : Area) (u : AreaUnit) : (s.setArea k u).defaultTemp = s.defaultTemp := rfl
@[simp] theorem setArea_climateStep (k : Area) (u : AreaUnit) : (s.setArea k u).climateStep = s.climateStep := rfl
@[simp] theorem setArea_inputs (k : Area) (u : AreaUnit) : (s.setArea k u).inputs = s.inputs := rfl
@[simp] theorem setArea_crosspoints (k : Area) (u : AreaUnit) : (s.setArea k u).crosspoints = s.crosspoints := rfl
@[simp] theorem setArea_zones (k : Area) (u : AreaUnit) : (s.setArea k u).zones = s.zones := rfl
@[simp] theorem setArea_panels (k : Area) (u : AreaUnit) : (s.setArea k u).panels = s.panels := rfl
@[simp] theorem setArea_key (k : Area) (u : AreaUnit) : (s.setArea k u).key = s.key := rfl
@[simp] theorem setArea_store (k : Area) (u : AreaUnit) : (s.setArea k u).store = s.store := rfl
@[simp] theorem setArea_latch (k : Area) (u : AreaUnit) : (s.setArea k u).latch = s.latch := rfl
@[simp] theorem setArea_operation (k : Area) (u : AreaUnit) : (s.setArea k u).operation = s.operation := rfl
@[simp] theorem setArea_guard (k : Area) (u : AreaUnit) : (s.setArea k u).guard = s.guard := rfl
@[simp] theorem setArea_alarm (k : Area) (u : AreaUnit) : (s.setArea k u).alarm = s.alarm := rfl
@[simp] theorem setArea_pending (k : Area) (u : AreaUnit) : (s.setArea k u).pending = s.pending := rfl
@[simp] theorem setArea_input_other (k : Area) (u : AreaUnit) (i' : Fin 24) : (s.setArea k u).input i' = s.input i' := rfl
@[simp] theorem setArea_crosspoint_other (k : Area) (u : AreaUnit) (x' : Fin 384) : (s.setArea k u).crosspoint x' = s.crosspoint x' := rfl
@[simp] theorem setArea_zone_other (k : Area) (u : AreaUnit) (z' : Fin 16) : (s.setArea k u).zone z' = s.zone z' := rfl
@[simp] theorem setArea_panel_other (k : Area) (u : AreaUnit) (n' : Fin 8) : (s.setArea k u).panel n' = s.panel n' := rfl
@[simp] theorem setArea_station_other (k : Area) (u : AreaUnit) (n' : Fin 32) : (s.setArea k u).station n' = s.station n' := rfl
@[simp] theorem setArea_slot_other (k : Area) (u : AreaUnit) (k' : Fin 64) : (s.setArea k u).slot k' = s.slot k' := rfl
@[simp] theorem setArea_line_other (k : Area) (u : AreaUnit) (l' : Line) : (s.setArea k u).line l' = s.line l' := by cases l' <;> rfl

/-! ### `setCrosspoint` -/

@[simp] theorem setCrosspoint_powered (x : Fin 384) (p : Crosspoint) : (s.setCrosspoint x p).powered = s.powered := rfl
@[simp] theorem setCrosspoint_control (x : Fin 384) (p : Crosspoint) : (s.setCrosspoint x p).control = s.control := rfl
@[simp] theorem setCrosspoint_safety (x : Fin 384) (p : Crosspoint) : (s.setCrosspoint x p).safety = s.safety := rfl
@[simp] theorem setCrosspoint_queue (x : Fin 384) (p : Crosspoint) : (s.setCrosspoint x p).queue = s.queue := rfl
@[simp] theorem setCrosspoint_overflow (x : Fin 384) (p : Crosspoint) : (s.setCrosspoint x p).overflow = s.overflow := rfl
@[simp] theorem setCrosspoint_subscribed (x : Fin 384) (p : Crosspoint) : (s.setCrosspoint x p).subscribed = s.subscribed := rfl
@[simp] theorem setCrosspoint_stamp (x : Fin 384) (p : Crosspoint) : (s.setCrosspoint x p).stamp = s.stamp := rfl
@[simp] theorem setCrosspoint_restartAccepted (x : Fin 384) (p : Crosspoint) : (s.setCrosspoint x p).restartAccepted = s.restartAccepted := rfl
@[simp] theorem setCrosspoint_stations (x : Fin 384) (p : Crosspoint) : (s.setCrosspoint x p).stations = s.stations := rfl
@[simp] theorem setCrosspoint_reported (x : Fin 384) (p : Crosspoint) : (s.setCrosspoint x p).reported = s.reported := rfl
@[simp] theorem setCrosspoint_used (x : Fin 384) (p : Crosspoint) : (s.setCrosspoint x p).used = s.used := rfl
@[simp] theorem setCrosspoint_defaultTemp (x : Fin 384) (p : Crosspoint) : (s.setCrosspoint x p).defaultTemp = s.defaultTemp := rfl
@[simp] theorem setCrosspoint_climateStep (x : Fin 384) (p : Crosspoint) : (s.setCrosspoint x p).climateStep = s.climateStep := rfl
@[simp] theorem setCrosspoint_inputs (x : Fin 384) (p : Crosspoint) : (s.setCrosspoint x p).inputs = s.inputs := rfl
@[simp] theorem setCrosspoint_areas (x : Fin 384) (p : Crosspoint) : (s.setCrosspoint x p).areas = s.areas := rfl
@[simp] theorem setCrosspoint_zones (x : Fin 384) (p : Crosspoint) : (s.setCrosspoint x p).zones = s.zones := rfl
@[simp] theorem setCrosspoint_panels (x : Fin 384) (p : Crosspoint) : (s.setCrosspoint x p).panels = s.panels := rfl
@[simp] theorem setCrosspoint_key (x : Fin 384) (p : Crosspoint) : (s.setCrosspoint x p).key = s.key := rfl
@[simp] theorem setCrosspoint_store (x : Fin 384) (p : Crosspoint) : (s.setCrosspoint x p).store = s.store := rfl
@[simp] theorem setCrosspoint_latch (x : Fin 384) (p : Crosspoint) : (s.setCrosspoint x p).latch = s.latch := rfl
@[simp] theorem setCrosspoint_operation (x : Fin 384) (p : Crosspoint) : (s.setCrosspoint x p).operation = s.operation := rfl
@[simp] theorem setCrosspoint_guard (x : Fin 384) (p : Crosspoint) : (s.setCrosspoint x p).guard = s.guard := rfl
@[simp] theorem setCrosspoint_alarm (x : Fin 384) (p : Crosspoint) : (s.setCrosspoint x p).alarm = s.alarm := rfl
@[simp] theorem setCrosspoint_pending (x : Fin 384) (p : Crosspoint) : (s.setCrosspoint x p).pending = s.pending := rfl
@[simp] theorem setCrosspoint_input_other (x : Fin 384) (p : Crosspoint) (i' : Fin 24) : (s.setCrosspoint x p).input i' = s.input i' := rfl
@[simp] theorem setCrosspoint_area_other (x : Fin 384) (p : Crosspoint) (k' : Area) : (s.setCrosspoint x p).area k' = s.area k' := rfl
@[simp] theorem setCrosspoint_zone_other (x : Fin 384) (p : Crosspoint) (z' : Fin 16) : (s.setCrosspoint x p).zone z' = s.zone z' := rfl
@[simp] theorem setCrosspoint_panel_other (x : Fin 384) (p : Crosspoint) (n' : Fin 8) : (s.setCrosspoint x p).panel n' = s.panel n' := rfl
@[simp] theorem setCrosspoint_station_other (x : Fin 384) (p : Crosspoint) (n' : Fin 32) : (s.setCrosspoint x p).station n' = s.station n' := rfl
@[simp] theorem setCrosspoint_slot_other (x : Fin 384) (p : Crosspoint) (k' : Fin 64) : (s.setCrosspoint x p).slot k' = s.slot k' := rfl
@[simp] theorem setCrosspoint_line_other (x : Fin 384) (p : Crosspoint) (l' : Line) : (s.setCrosspoint x p).line l' = s.line l' := by cases l' <;> rfl

/-! ### `updateCrosspoints` -/

@[simp] theorem updateCrosspoints_powered (w : Fin 384 → Bool) (f : Fin 384 → Crosspoint → Crosspoint) : (s.updateCrosspoints w f).powered = s.powered := rfl
@[simp] theorem updateCrosspoints_control (w : Fin 384 → Bool) (f : Fin 384 → Crosspoint → Crosspoint) : (s.updateCrosspoints w f).control = s.control := rfl
@[simp] theorem updateCrosspoints_safety (w : Fin 384 → Bool) (f : Fin 384 → Crosspoint → Crosspoint) : (s.updateCrosspoints w f).safety = s.safety := rfl
@[simp] theorem updateCrosspoints_queue (w : Fin 384 → Bool) (f : Fin 384 → Crosspoint → Crosspoint) : (s.updateCrosspoints w f).queue = s.queue := rfl
@[simp] theorem updateCrosspoints_overflow (w : Fin 384 → Bool) (f : Fin 384 → Crosspoint → Crosspoint) : (s.updateCrosspoints w f).overflow = s.overflow := rfl
@[simp] theorem updateCrosspoints_subscribed (w : Fin 384 → Bool) (f : Fin 384 → Crosspoint → Crosspoint) : (s.updateCrosspoints w f).subscribed = s.subscribed := rfl
@[simp] theorem updateCrosspoints_stamp (w : Fin 384 → Bool) (f : Fin 384 → Crosspoint → Crosspoint) : (s.updateCrosspoints w f).stamp = s.stamp := rfl
@[simp] theorem updateCrosspoints_restartAccepted (w : Fin 384 → Bool) (f : Fin 384 → Crosspoint → Crosspoint) : (s.updateCrosspoints w f).restartAccepted = s.restartAccepted := rfl
@[simp] theorem updateCrosspoints_stations (w : Fin 384 → Bool) (f : Fin 384 → Crosspoint → Crosspoint) : (s.updateCrosspoints w f).stations = s.stations := rfl
@[simp] theorem updateCrosspoints_reported (w : Fin 384 → Bool) (f : Fin 384 → Crosspoint → Crosspoint) : (s.updateCrosspoints w f).reported = s.reported := rfl
@[simp] theorem updateCrosspoints_used (w : Fin 384 → Bool) (f : Fin 384 → Crosspoint → Crosspoint) : (s.updateCrosspoints w f).used = s.used := rfl
@[simp] theorem updateCrosspoints_defaultTemp (w : Fin 384 → Bool) (f : Fin 384 → Crosspoint → Crosspoint) : (s.updateCrosspoints w f).defaultTemp = s.defaultTemp := rfl
@[simp] theorem updateCrosspoints_climateStep (w : Fin 384 → Bool) (f : Fin 384 → Crosspoint → Crosspoint) : (s.updateCrosspoints w f).climateStep = s.climateStep := rfl
@[simp] theorem updateCrosspoints_inputs (w : Fin 384 → Bool) (f : Fin 384 → Crosspoint → Crosspoint) : (s.updateCrosspoints w f).inputs = s.inputs := rfl
@[simp] theorem updateCrosspoints_areas (w : Fin 384 → Bool) (f : Fin 384 → Crosspoint → Crosspoint) : (s.updateCrosspoints w f).areas = s.areas := rfl
@[simp] theorem updateCrosspoints_zones (w : Fin 384 → Bool) (f : Fin 384 → Crosspoint → Crosspoint) : (s.updateCrosspoints w f).zones = s.zones := rfl
@[simp] theorem updateCrosspoints_panels (w : Fin 384 → Bool) (f : Fin 384 → Crosspoint → Crosspoint) : (s.updateCrosspoints w f).panels = s.panels := rfl
@[simp] theorem updateCrosspoints_key (w : Fin 384 → Bool) (f : Fin 384 → Crosspoint → Crosspoint) : (s.updateCrosspoints w f).key = s.key := rfl
@[simp] theorem updateCrosspoints_store (w : Fin 384 → Bool) (f : Fin 384 → Crosspoint → Crosspoint) : (s.updateCrosspoints w f).store = s.store := rfl
@[simp] theorem updateCrosspoints_latch (w : Fin 384 → Bool) (f : Fin 384 → Crosspoint → Crosspoint) : (s.updateCrosspoints w f).latch = s.latch := rfl
@[simp] theorem updateCrosspoints_operation (w : Fin 384 → Bool) (f : Fin 384 → Crosspoint → Crosspoint) : (s.updateCrosspoints w f).operation = s.operation := rfl
@[simp] theorem updateCrosspoints_guard (w : Fin 384 → Bool) (f : Fin 384 → Crosspoint → Crosspoint) : (s.updateCrosspoints w f).guard = s.guard := rfl
@[simp] theorem updateCrosspoints_alarm (w : Fin 384 → Bool) (f : Fin 384 → Crosspoint → Crosspoint) : (s.updateCrosspoints w f).alarm = s.alarm := rfl
@[simp] theorem updateCrosspoints_pending (w : Fin 384 → Bool) (f : Fin 384 → Crosspoint → Crosspoint) : (s.updateCrosspoints w f).pending = s.pending := rfl
@[simp] theorem updateCrosspoints_input_other (w : Fin 384 → Bool) (f : Fin 384 → Crosspoint → Crosspoint) (i' : Fin 24) : (s.updateCrosspoints w f).input i' = s.input i' := rfl
@[simp] theorem updateCrosspoints_area_other (w : Fin 384 → Bool) (f : Fin 384 → Crosspoint → Crosspoint) (k' : Area) : (s.updateCrosspoints w f).area k' = s.area k' := rfl
@[simp] theorem updateCrosspoints_zone_other (w : Fin 384 → Bool) (f : Fin 384 → Crosspoint → Crosspoint) (z' : Fin 16) : (s.updateCrosspoints w f).zone z' = s.zone z' := rfl
@[simp] theorem updateCrosspoints_panel_other (w : Fin 384 → Bool) (f : Fin 384 → Crosspoint → Crosspoint) (n' : Fin 8) : (s.updateCrosspoints w f).panel n' = s.panel n' := rfl
@[simp] theorem updateCrosspoints_station_other (w : Fin 384 → Bool) (f : Fin 384 → Crosspoint → Crosspoint) (n' : Fin 32) : (s.updateCrosspoints w f).station n' = s.station n' := rfl
@[simp] theorem updateCrosspoints_slot_other (w : Fin 384 → Bool) (f : Fin 384 → Crosspoint → Crosspoint) (k' : Fin 64) : (s.updateCrosspoints w f).slot k' = s.slot k' := rfl
@[simp] theorem updateCrosspoints_line_other (w : Fin 384 → Bool) (f : Fin 384 → Crosspoint → Crosspoint) (l' : Line) : (s.updateCrosspoints w f).line l' = s.line l' := by cases l' <;> rfl

/-! ### `setZone` -/

@[simp] theorem setZone_powered (z : Fin 16) (y : Zone) : (s.setZone z y).powered = s.powered := rfl
@[simp] theorem setZone_control (z : Fin 16) (y : Zone) : (s.setZone z y).control = s.control := rfl
@[simp] theorem setZone_safety (z : Fin 16) (y : Zone) : (s.setZone z y).safety = s.safety := rfl
@[simp] theorem setZone_queue (z : Fin 16) (y : Zone) : (s.setZone z y).queue = s.queue := rfl
@[simp] theorem setZone_overflow (z : Fin 16) (y : Zone) : (s.setZone z y).overflow = s.overflow := rfl
@[simp] theorem setZone_subscribed (z : Fin 16) (y : Zone) : (s.setZone z y).subscribed = s.subscribed := rfl
@[simp] theorem setZone_stamp (z : Fin 16) (y : Zone) : (s.setZone z y).stamp = s.stamp := rfl
@[simp] theorem setZone_restartAccepted (z : Fin 16) (y : Zone) : (s.setZone z y).restartAccepted = s.restartAccepted := rfl
@[simp] theorem setZone_stations (z : Fin 16) (y : Zone) : (s.setZone z y).stations = s.stations := rfl
@[simp] theorem setZone_reported (z : Fin 16) (y : Zone) : (s.setZone z y).reported = s.reported := rfl
@[simp] theorem setZone_used (z : Fin 16) (y : Zone) : (s.setZone z y).used = s.used := rfl
@[simp] theorem setZone_defaultTemp (z : Fin 16) (y : Zone) : (s.setZone z y).defaultTemp = s.defaultTemp := rfl
@[simp] theorem setZone_climateStep (z : Fin 16) (y : Zone) : (s.setZone z y).climateStep = s.climateStep := rfl
@[simp] theorem setZone_inputs (z : Fin 16) (y : Zone) : (s.setZone z y).inputs = s.inputs := rfl
@[simp] theorem setZone_areas (z : Fin 16) (y : Zone) : (s.setZone z y).areas = s.areas := rfl
@[simp] theorem setZone_crosspoints (z : Fin 16) (y : Zone) : (s.setZone z y).crosspoints = s.crosspoints := rfl
@[simp] theorem setZone_panels (z : Fin 16) (y : Zone) : (s.setZone z y).panels = s.panels := rfl
@[simp] theorem setZone_key (z : Fin 16) (y : Zone) : (s.setZone z y).key = s.key := rfl
@[simp] theorem setZone_store (z : Fin 16) (y : Zone) : (s.setZone z y).store = s.store := rfl
@[simp] theorem setZone_latch (z : Fin 16) (y : Zone) : (s.setZone z y).latch = s.latch := rfl
@[simp] theorem setZone_operation (z : Fin 16) (y : Zone) : (s.setZone z y).operation = s.operation := rfl
@[simp] theorem setZone_guard (z : Fin 16) (y : Zone) : (s.setZone z y).guard = s.guard := rfl
@[simp] theorem setZone_alarm (z : Fin 16) (y : Zone) : (s.setZone z y).alarm = s.alarm := rfl
@[simp] theorem setZone_pending (z : Fin 16) (y : Zone) : (s.setZone z y).pending = s.pending := rfl
@[simp] theorem setZone_input_other (z : Fin 16) (y : Zone) (i' : Fin 24) : (s.setZone z y).input i' = s.input i' := rfl
@[simp] theorem setZone_area_other (z : Fin 16) (y : Zone) (k' : Area) : (s.setZone z y).area k' = s.area k' := rfl
@[simp] theorem setZone_crosspoint_other (z : Fin 16) (y : Zone) (x' : Fin 384) : (s.setZone z y).crosspoint x' = s.crosspoint x' := rfl
@[simp] theorem setZone_panel_other (z : Fin 16) (y : Zone) (n' : Fin 8) : (s.setZone z y).panel n' = s.panel n' := rfl
@[simp] theorem setZone_station_other (z : Fin 16) (y : Zone) (n' : Fin 32) : (s.setZone z y).station n' = s.station n' := rfl
@[simp] theorem setZone_slot_other (z : Fin 16) (y : Zone) (k' : Fin 64) : (s.setZone z y).slot k' = s.slot k' := rfl
@[simp] theorem setZone_line_other (z : Fin 16) (y : Zone) (l' : Line) : (s.setZone z y).line l' = s.line l' := by cases l' <;> rfl

/-! ### `setPanel` -/

@[simp] theorem setPanel_powered (n : Fin 8) (p : Panel) : (s.setPanel n p).powered = s.powered := rfl
@[simp] theorem setPanel_control (n : Fin 8) (p : Panel) : (s.setPanel n p).control = s.control := rfl
@[simp] theorem setPanel_safety (n : Fin 8) (p : Panel) : (s.setPanel n p).safety = s.safety := rfl
@[simp] theorem setPanel_queue (n : Fin 8) (p : Panel) : (s.setPanel n p).queue = s.queue := rfl
@[simp] theorem setPanel_overflow (n : Fin 8) (p : Panel) : (s.setPanel n p).overflow = s.overflow := rfl
@[simp] theorem setPanel_subscribed (n : Fin 8) (p : Panel) : (s.setPanel n p).subscribed = s.subscribed := rfl
@[simp] theorem setPanel_stamp (n : Fin 8) (p : Panel) : (s.setPanel n p).stamp = s.stamp := rfl
@[simp] theorem setPanel_restartAccepted (n : Fin 8) (p : Panel) : (s.setPanel n p).restartAccepted = s.restartAccepted := rfl
@[simp] theorem setPanel_stations (n : Fin 8) (p : Panel) : (s.setPanel n p).stations = s.stations := rfl
@[simp] theorem setPanel_reported (n : Fin 8) (p : Panel) : (s.setPanel n p).reported = s.reported := rfl
@[simp] theorem setPanel_used (n : Fin 8) (p : Panel) : (s.setPanel n p).used = s.used := rfl
@[simp] theorem setPanel_defaultTemp (n : Fin 8) (p : Panel) : (s.setPanel n p).defaultTemp = s.defaultTemp := rfl
@[simp] theorem setPanel_climateStep (n : Fin 8) (p : Panel) : (s.setPanel n p).climateStep = s.climateStep := rfl
@[simp] theorem setPanel_inputs (n : Fin 8) (p : Panel) : (s.setPanel n p).inputs = s.inputs := rfl
@[simp] theorem setPanel_areas (n : Fin 8) (p : Panel) : (s.setPanel n p).areas = s.areas := rfl
@[simp] theorem setPanel_crosspoints (n : Fin 8) (p : Panel) : (s.setPanel n p).crosspoints = s.crosspoints := rfl
@[simp] theorem setPanel_zones (n : Fin 8) (p : Panel) : (s.setPanel n p).zones = s.zones := rfl
@[simp] theorem setPanel_key (n : Fin 8) (p : Panel) : (s.setPanel n p).key = s.key := rfl
@[simp] theorem setPanel_store (n : Fin 8) (p : Panel) : (s.setPanel n p).store = s.store := rfl
@[simp] theorem setPanel_latch (n : Fin 8) (p : Panel) : (s.setPanel n p).latch = s.latch := rfl
@[simp] theorem setPanel_operation (n : Fin 8) (p : Panel) : (s.setPanel n p).operation = s.operation := rfl
@[simp] theorem setPanel_guard (n : Fin 8) (p : Panel) : (s.setPanel n p).guard = s.guard := rfl
@[simp] theorem setPanel_alarm (n : Fin 8) (p : Panel) : (s.setPanel n p).alarm = s.alarm := rfl
@[simp] theorem setPanel_pending (n : Fin 8) (p : Panel) : (s.setPanel n p).pending = s.pending := rfl
@[simp] theorem setPanel_input_other (n : Fin 8) (p : Panel) (i' : Fin 24) : (s.setPanel n p).input i' = s.input i' := rfl
@[simp] theorem setPanel_area_other (n : Fin 8) (p : Panel) (k' : Area) : (s.setPanel n p).area k' = s.area k' := rfl
@[simp] theorem setPanel_crosspoint_other (n : Fin 8) (p : Panel) (x' : Fin 384) : (s.setPanel n p).crosspoint x' = s.crosspoint x' := rfl
@[simp] theorem setPanel_zone_other (n : Fin 8) (p : Panel) (z' : Fin 16) : (s.setPanel n p).zone z' = s.zone z' := rfl
@[simp] theorem setPanel_station_other (n : Fin 8) (p : Panel) (n' : Fin 32) : (s.setPanel n p).station n' = s.station n' := rfl
@[simp] theorem setPanel_slot_other (n : Fin 8) (p : Panel) (k' : Fin 64) : (s.setPanel n p).slot k' = s.slot k' := rfl
@[simp] theorem setPanel_line_other (n : Fin 8) (p : Panel) (l' : Line) : (s.setPanel n p).line l' = s.line l' := by cases l' <;> rfl

/-! ### Reading what was written -/

@[simp] theorem setInput_input_self (i : Fin 24) (y : Input) : (s.setInput i y).input i = y :=
  Table.get_set_self ..

theorem setInput_input (i j : Fin 24) (y : Input) :
    (s.setInput i y).input j = if i = j then y else s.input j := Table.get_set ..

theorem areaIndex_injective {k l : Area} (h : areaIndex k = areaIndex l) : k = l := by
  cases k <;> cases l <;> simp_all [areaIndex]

@[simp] theorem setArea_area_self (k : Area) (u : AreaUnit) : (s.setArea k u).area k = u :=
  Table.get_set_self ..

theorem setArea_area (k l : Area) (u : AreaUnit) :
    (s.setArea k u).area l = if k = l then u else s.area l := by
  by_cases h : k = l
  · subst h; simp
  · have hne : areaIndex k ≠ areaIndex l := fun e => h (areaIndex_injective e)
    simp [State.area, State.setArea, h, hne]

@[simp] theorem setCrosspoint_crosspoint_self (x : Fin 384) (p : Crosspoint) :
    (s.setCrosspoint x p).crosspoint x = p := Table.get_set_self ..

theorem setCrosspoint_crosspoint (x y : Fin 384) (p : Crosspoint) :
    (s.setCrosspoint x p).crosspoint y = if x = y then p else s.crosspoint y := Table.get_set ..

@[simp] theorem updateCrosspoints_crosspoint (w : Fin 384 → Bool) (f : Fin 384 → Crosspoint → Crosspoint)
    (x : Fin 384) :
    (s.updateCrosspoints w f).crosspoint x = if w x then f x (s.crosspoint x) else s.crosspoint x :=
  Table.get_mapIdx ..

@[simp] theorem setZone_zone_self (z : Fin 16) (y : Zone) : (s.setZone z y).zone z = y :=
  Table.get_set_self ..

theorem setZone_zone (z w : Fin 16) (y : Zone) :
    (s.setZone z y).zone w = if z = w then y else s.zone w := Table.get_set ..

@[simp] theorem setPanel_panel_self (n : Fin 8) (p : Panel) : (s.setPanel n p).panel n = p :=
  Table.get_set_self ..

theorem setPanel_panel (n m : Fin 8) (p : Panel) :
    (s.setPanel n p).panel m = if n = m then p else s.panel m := Table.get_set ..

@[simp] theorem setLine_line_self (l : Line) (y : LineState) : (s.setLine l y).line l = y := by
  cases l <;> rfl

theorem setLine_line (l m : Line) (y : LineState) :
    (s.setLine l y).line m = if l = m then y else s.line m := by
  cases l <;> cases m <;> rfl

/-! ### Writing a line -/

@[simp] theorem setLine_powered (l : Line) (y : LineState) : (s.setLine l y).powered = s.powered := by cases l <;> rfl
@[simp] theorem setLine_queue (l : Line) (y : LineState) : (s.setLine l y).queue = s.queue := by cases l <;> rfl
@[simp] theorem setLine_overflow (l : Line) (y : LineState) : (s.setLine l y).overflow = s.overflow := by cases l <;> rfl
@[simp] theorem setLine_subscribed (l : Line) (y : LineState) : (s.setLine l y).subscribed = s.subscribed := by cases l <;> rfl
@[simp] theorem setLine_stamp (l : Line) (y : LineState) : (s.setLine l y).stamp = s.stamp := by cases l <;> rfl
@[simp] theorem setLine_restartAccepted (l : Line) (y : LineState) : (s.setLine l y).restartAccepted = s.restartAccepted := by cases l <;> rfl
@[simp] theorem setLine_stations (l : Line) (y : LineState) : (s.setLine l y).stations = s.stations := by cases l <;> rfl
@[simp] theorem setLine_reported (l : Line) (y : LineState) : (s.setLine l y).reported = s.reported := by cases l <;> rfl
@[simp] theorem setLine_used (l : Line) (y : LineState) : (s.setLine l y).used = s.used := by cases l <;> rfl
@[simp] theorem setLine_defaultTemp (l : Line) (y : LineState) : (s.setLine l y).defaultTemp = s.defaultTemp := by cases l <;> rfl
@[simp] theorem setLine_climateStep (l : Line) (y : LineState) : (s.setLine l y).climateStep = s.climateStep := by cases l <;> rfl
@[simp] theorem setLine_inputs (l : Line) (y : LineState) : (s.setLine l y).inputs = s.inputs := by cases l <;> rfl
@[simp] theorem setLine_areas (l : Line) (y : LineState) : (s.setLine l y).areas = s.areas := by cases l <;> rfl
@[simp] theorem setLine_crosspoints (l : Line) (y : LineState) : (s.setLine l y).crosspoints = s.crosspoints := by cases l <;> rfl
@[simp] theorem setLine_zones (l : Line) (y : LineState) : (s.setLine l y).zones = s.zones := by cases l <;> rfl
@[simp] theorem setLine_panels (l : Line) (y : LineState) : (s.setLine l y).panels = s.panels := by cases l <;> rfl
@[simp] theorem setLine_key (l : Line) (y : LineState) : (s.setLine l y).key = s.key := by cases l <;> rfl
@[simp] theorem setLine_store (l : Line) (y : LineState) : (s.setLine l y).store = s.store := by cases l <;> rfl
@[simp] theorem setLine_latch (l : Line) (y : LineState) : (s.setLine l y).latch = s.latch := by cases l <;> rfl
@[simp] theorem setLine_operation (l : Line) (y : LineState) : (s.setLine l y).operation = s.operation := by cases l <;> rfl
@[simp] theorem setLine_guard (l : Line) (y : LineState) : (s.setLine l y).guard = s.guard := by cases l <;> rfl
@[simp] theorem setLine_alarm (l : Line) (y : LineState) : (s.setLine l y).alarm = s.alarm := by cases l <;> rfl
@[simp] theorem setLine_pending (l : Line) (y : LineState) : (s.setLine l y).pending = s.pending := by cases l <;> rfl
@[simp] theorem setLine_input (l : Line) (y : LineState) (i : Fin 24) : (s.setLine l y).input i = s.input i := by cases l <;> rfl
@[simp] theorem setLine_area (l : Line) (y : LineState) (k : Area) : (s.setLine l y).area k = s.area k := by cases l <;> rfl
@[simp] theorem setLine_crosspoint (l : Line) (y : LineState) (x : Fin 384) : (s.setLine l y).crosspoint x = s.crosspoint x := by cases l <;> rfl
@[simp] theorem setLine_zone (l : Line) (y : LineState) (z : Fin 16) : (s.setLine l y).zone z = s.zone z := by cases l <;> rfl
@[simp] theorem setLine_panel (l : Line) (y : LineState) (n : Fin 8) : (s.setLine l y).panel n = s.panel n := by cases l <;> rfl
@[simp] theorem setLine_station (l : Line) (y : LineState) (n : Fin 32) : (s.setLine l y).station n = s.station n := by cases l <;> rfl
@[simp] theorem setLine_slot (l : Line) (y : LineState) (k : Fin 64) : (s.setLine l y).slot k = s.slot k := by cases l <;> rfl

@[simp] theorem setLine_control_safety (y : LineState) : (s.setLine .control y).safety = s.safety := rfl

@[simp] theorem setLine_safety_control (y : LineState) : (s.setLine .safety y).control = s.control := rfl

@[simp] theorem setLine_control_control (y : LineState) : (s.setLine .control y).control = y := rfl

@[simp] theorem setLine_safety_safety (y : LineState) : (s.setLine .safety y).safety = y := rfl

end Sys2Proof.Machine
end

