-- ==== Sys2Proof/Laws/Ops.lean ====
section
/-! SUPPORT. What raising a notice and settling an answer can do. -/

namespace Sys2Proof.Machine

variable (s : State)

/-! ### Notices (R160) -/

/-- A notice raised changes the queue and the overflow indicator alone. -/
theorem raise_touches (k : NoticeKind) (n : Nat) (v : Int) :
    ∃ q o, s.raise k n v = { s with queue := q, overflow := o } := by
  unfold State.raise
  split
  · split
    · exact ⟨_, _, rfl⟩
    · exact ⟨_, _, rfl⟩
  · exact ⟨_, _, rfl⟩

/-- A notice raised leaves the notices that wait where they are. -/
theorem raise_queue_prefix (k : NoticeKind) (n : Nat) (v : Int) : s.queue <+: (s.raise k n v).queue := by
  unfold State.raise
  split
  · split
    · exact List.prefix_append _ _
    · exact List.prefix_refl _
  · exact List.prefix_refl _

/-- A notice raised never takes the queue past 32 notices. -/
theorem raise_queue_length (k : NoticeKind) (n : Nat) (v : Int) (h : s.queue.length ≤ 32) :
    (s.raise k n v).queue.length ≤ 32 := by
  unfold State.raise
  split
  · split
    · simp only [List.length_append, List.length_singleton]; omega
    · exact h
  · exact h

/-- A notice of a kind that is not subscribed leaves everything as it was. -/
theorem raise_unsubscribed {k : NoticeKind} (n : Nat) (v : Int) (h : s.subscribed.contains k = false) :
    s.raise k n v = s := by
  unfold State.raise
  rw [if_neg (fun c => Bool.noConfusion (h.symm.trans c))]

/-- A subscribed notice goes to the end of a queue that has room. -/
theorem raise_room {k : NoticeKind} (n : Nat) (v : Int) (h : s.subscribed.contains k = true)
    (room : s.queue.length < 32) :
    s.raise k n v = { s with queue := s.queue ++ [⟨k, s.stamp, n, v⟩] } := by
  unfold State.raise
  rw [if_pos h, if_pos room]

/-- A subscribed notice that finds the queue full sets the overflow indicator. -/
theorem raise_full {k : NoticeKind} (n : Nat) (v : Int) (h : s.subscribed.contains k = true)
    (full : ¬ s.queue.length < 32) : s.raise k n v = { s with overflow := true } := by
  unfold State.raise
  rw [if_pos h, if_neg full]

/-! ### Answers (R155 to R158, R167) -/

/-- The status byte does not depend on the lines. -/
@[simp] theorem statusByte_setLine (l : Line) (y : LineState) : (s.setLine l y).statusByte = s.statusByte := by
  cases l <;> rfl

/-- An event of a part with power happens. -/
theorem whenPowered_powered (event : State → State) (powered : s.powered = true) :
    s.whenPowered event = .next (event s) := by
  simp [State.whenPowered, powered]

/-- An event of a part without power changes nothing. -/
theorem whenPowered_unpowered (event : State → State) (off : s.powered = false) :
    s.whenPowered event = .next s := by
  simp [State.whenPowered, off]

/-- The line of a settled answer holds the reply, and its receiver hunts. -/
@[simp] theorem settle_line (a : Answer) (l : Line) (kind tag : Byte) :
    (a.settle l kind tag).line l = ⟨Receiver.hunting, some (a.replyFrame kind tag)⟩ := by
  simp [Answer.settle]

@[simp] theorem refuse_state (r : Result) : (s.refuse r).state = s := rfl

@[simp] theorem refuse_result (r : Result) : (s.refuse r).result = r := rfl

@[simp] theorem refuse_data (r : Result) : (s.refuse r).data = [] := rfl

end Sys2Proof.Machine
end

