-- ==== Sys2Proof/Laws/Frames.lean ====
section
/-! SUPPORT. What each shared operation can change: the parts of the state that an operation touches, said
once, so that no proof unfolds it to learn what it leaves alone. -/

namespace Sys2Proof.Machine

/-- From `s` to `t` the notice queue alone may differ. -/
def OnlyNotices (s t : State) : Prop := ∃ q o, t = { s with queue := q, overflow := o }

/-- From `s` to `t` the crosspoint records and the notice queue alone may differ. -/
def OnlyPlan (s t : State) : Prop :=
  ∃ c q o, t = { s with crosspoints := c, queue := q, overflow := o }

/-- From `s` to `t` the inputs, the areas and the notice queue alone may differ. -/
def OnlyLists (s t : State) : Prop :=
  ∃ i a q o, t = { s with inputs := i, areas := a, queue := q, overflow := o }

/-- From `s` to `t` the inputs, the areas, the crosspoint records and the notice queue alone may differ. -/
def OnlyMixing (s t : State) : Prop :=
  ∃ i a c q o, t = { s with inputs := i, areas := a, crosspoints := c, queue := q, overflow := o }

/-- From `s` to `t` the live setup with all it governs and the notice queue alone may differ. -/
def OnlySetup (s t : State) : Prop :=
  ∃ i a c z p q o, t = { s with inputs := i, areas := a, crosspoints := c, zones := z, panels := p,
                                queue := q, overflow := o }

/-- From `s` to `t` the setup and the alarm unit alone may differ. -/
def OnlySetupAndAlarm (s t : State) : Prop :=
  ∃ i a c z p q o u, t = { s with inputs := i, areas := a, crosspoints := c, zones := z, panels := p,
                                  queue := q, overflow := o, alarm := u }

theorem OnlyNotices.refl (s : State) : OnlyNotices s s := ⟨_, _, rfl⟩
theorem OnlyPlan.refl (s : State) : OnlyPlan s s := ⟨_, _, _, rfl⟩
theorem OnlyLists.refl (s : State) : OnlyLists s s := ⟨_, _, _, _, rfl⟩
theorem OnlyMixing.refl (s : State) : OnlyMixing s s := ⟨_, _, _, _, _, rfl⟩
theorem OnlySetup.refl (s : State) : OnlySetup s s := ⟨_, _, _, _, _, _, _, rfl⟩
theorem OnlySetupAndAlarm.refl (s : State) : OnlySetupAndAlarm s s := ⟨_, _, _, _, _, _, _, _, rfl⟩

variable {s t u : State}

theorem OnlyNotices.trans (h : OnlyNotices s t) (k : OnlyNotices t u) : OnlyNotices s u := by
  obtain ⟨_, _, rfl⟩ := h
  obtain ⟨_, _, rfl⟩ := k
  exact ⟨_, _, rfl⟩

theorem OnlyPlan.trans (h : OnlyPlan s t) (k : OnlyPlan t u) : OnlyPlan s u := by
  obtain ⟨_, _, _, rfl⟩ := h
  obtain ⟨_, _, _, rfl⟩ := k
  exact ⟨_, _, _, rfl⟩

theorem OnlyLists.trans (h : OnlyLists s t) (k : OnlyLists t u) : OnlyLists s u := by
  obtain ⟨_, _, _, _, rfl⟩ := h
  obtain ⟨_, _, _, _, rfl⟩ := k
  exact ⟨_, _, _, _, rfl⟩

theorem OnlyMixing.trans (h : OnlyMixing s t) (k : OnlyMixing t u) : OnlyMixing s u := by
  obtain ⟨_, _, _, _, _, rfl⟩ := h
  obtain ⟨_, _, _, _, _, rfl⟩ := k
  exact ⟨_, _, _, _, _, rfl⟩

theorem OnlySetup.trans (h : OnlySetup s t) (k : OnlySetup t u) : OnlySetup s u := by
  obtain ⟨_, _, _, _, _, _, _, rfl⟩ := h
  obtain ⟨_, _, _, _, _, _, _, rfl⟩ := k
  exact ⟨_, _, _, _, _, _, _, rfl⟩

theorem OnlySetupAndAlarm.trans (h : OnlySetupAndAlarm s t) (k : OnlySetupAndAlarm t u) :
    OnlySetupAndAlarm s u := by
  obtain ⟨_, _, _, _, _, _, _, _, rfl⟩ := h
  obtain ⟨_, _, _, _, _, _, _, _, rfl⟩ := k
  exact ⟨_, _, _, _, _, _, _, _, rfl⟩

theorem OnlyNotices.plan (h : OnlyNotices s t) : OnlyPlan s t := by
  obtain ⟨_, _, rfl⟩ := h; exact ⟨_, _, _, rfl⟩

theorem OnlyNotices.lists (h : OnlyNotices s t) : OnlyLists s t := by
  obtain ⟨_, _, rfl⟩ := h; exact ⟨_, _, _, _, rfl⟩

theorem OnlyPlan.mixing (h : OnlyPlan s t) : OnlyMixing s t := by
  obtain ⟨_, _, _, rfl⟩ := h; exact ⟨_, _, _, _, _, rfl⟩

theorem OnlyLists.mixing (h : OnlyLists s t) : OnlyMixing s t := by
  obtain ⟨_, _, _, _, rfl⟩ := h; exact ⟨_, _, _, _, _, rfl⟩

theorem OnlyMixing.setup (h : OnlyMixing s t) : OnlySetup s t := by
  obtain ⟨_, _, _, _, _, rfl⟩ := h; exact ⟨_, _, _, _, _, _, _, rfl⟩

theorem OnlySetup.setupAndAlarm (h : OnlySetup s t) : OnlySetupAndAlarm s t := by
  obtain ⟨_, _, _, _, _, _, _, rfl⟩ := h; exact ⟨_, _, _, _, _, _, _, _, rfl⟩

/-- A fold of steps that each touch only some parts touches only those. -/
theorem foldl_touches {α : Type} {R : State → State → Prop} (refl : ∀ s, R s s)
    (trans : ∀ {s t u}, R s t → R t u → R s u) (f : State → α → State) (h : ∀ s x, R s (f s x))
    (xs : List α) (s : State) : R s (xs.foldl f s) := by
  induction xs generalizing s with
  | nil => exact refl s
  | cons x xs ih => exact trans (h s x) (ih (f s x))

variable (s)

/-! ### The plan -/

theorem raise_onlyNotices (k : NoticeKind) (n : Nat) (v : Int) : OnlyNotices s (s.raise k n v) :=
  raise_touches s k n v

theorem updateCrosspoints_onlyPlan (w : Fin 384 → Bool) (f : Fin 384 → Crosspoint → Crosspoint) :
    OnlyPlan s (s.updateCrosspoints w f) := ⟨_, _, _, rfl⟩

theorem raiseClamped_onlyNotices (x : Fin 384) : OnlyNotices s (s.raiseClamped x) := by
  unfold State.raiseClamped
  split
  · exact raise_onlyNotices ..
  · exact .refl s

theorem retime_onlyPlan (w : Fin 384 → Bool) : OnlyPlan s (s.retime w) :=
  (updateCrosspoints_onlyPlan s w _).trans
    (foldl_touches OnlyPlan.refl OnlyPlan.trans _ (fun s x => (raiseClamped_onlyNotices s x).plan) _ _)

theorem recompose_onlyPlan (w : Fin 384 → Bool) : OnlyPlan s (s.recompose w) :=
  updateCrosspoints_onlyPlan ..

theorem relive_onlyPlan (w : Fin 384 → Bool) : OnlyPlan s (s.relive w) := updateCrosspoints_onlyPlan ..

theorem reevaluate_onlyPlan (w : Fin 384 → Bool) : OnlyPlan s (s.reevaluate w) :=
  (relive_onlyPlan s w).trans (recompose_onlyPlan _ w)

theorem floorReset_onlyPlan : OnlyPlan s s.floorReset := updateCrosspoints_onlyPlan ..

theorem snapAll_onlyPlan : OnlyPlan s s.snapAll := updateCrosspoints_onlyPlan ..

theorem snapToTargets_onlyPlan (w : Fin 384 → Bool) : OnlyPlan s (s.snapToTargets w) :=
  updateCrosspoints_onlyPlan ..

/-! ### The open lists -/

theorem retarget_onlyLists (w : Fin 24 → Bool) : OnlyLists s (s.retarget w) := ⟨_, _, _, _, rfl⟩

theorem retargetStanding_onlyLists : OnlyLists s s.retargetStanding := ⟨_, _, _, _, rfl⟩

theorem setInput_onlyLists (i : Fin 24) (y : Input) : OnlyLists s (s.setInput i y) := ⟨_, _, _, _, rfl⟩

theorem setArea_onlyLists (k : Area) (y : AreaUnit) : OnlyLists s (s.setArea k y) := ⟨_, _, _, _, rfl⟩

theorem dropEntry_onlyLists (k : Area) (r : ListReason) (i : Fin 24) : OnlyLists s (s.dropEntry k r i) :=
  ((setArea_onlyLists s k _).trans (setInput_onlyLists _ i _)).trans (raise_onlyNotices ..).lists

theorem dropEntries_onlyLists (k : Area) (r : ListReason) (is : List (Fin 24)) :
    OnlyLists s (s.dropEntries k r is) :=
  foldl_touches OnlyLists.refl OnlyLists.trans _ (fun s i => dropEntry_onlyLists s k r i) is s

theorem releaseRetained_onlyLists (k : Area) : OnlyLists s (s.releaseRetained k) :=
  dropEntries_onlyLists ..

theorem shed_onlyLists (k : Area) (r : ListReason) (n : Nat) : OnlyLists s (s.shed k r n) := by
  induction n generalizing s with
  | zero => exact .refl s
  | succ n ih =>
    unfold State.shed
    split
    · exact .refl s
    · exact (dropEntry_onlyLists ..).trans (ih _)

theorem shedToMaxOpen_onlyLists (k : Area) (r : ListReason) : OnlyLists s (s.shedToMaxOpen k r) :=
  shed_onlyLists ..

theorem dropAndRetarget_onlyLists (k : Area) (r : ListReason) (i : Fin 24) :
    OnlyLists s (s.dropAndRetarget k r i) :=
  (dropEntry_onlyLists ..).trans (retarget_onlyLists ..)

theorem appendEntry_onlyLists (k : Area) (i : Fin 24) (p : Nat) (l : Int) :
    OnlyLists s (s.appendEntry k i p l) :=
  (((setArea_onlyLists s k _).trans (setInput_onlyLists _ i _)).trans (retarget_onlyLists ..)).trans
    (raise_onlyNotices ..).lists

theorem giveWay_onlyLists (k : Area) : OnlyLists s (s.giveWay k) := by
  unfold State.giveWay
  split
  · exact .refl s
  · exact dropAndRetarget_onlyLists ..

theorem updateNom_onlyMixing (k : Area) : OnlyMixing s (s.updateNom k) := by
  unfold State.updateNom
  split
  · exact .refl s
  · exact (setArea_onlyLists s k _).mixing.trans (recompose_onlyPlan ..).mixing

theorem settleRequest_onlyMixing (k : Area) (i : Fin 24) (p : Nat) (l : Int) :
    OnlyMixing s (s.settleRequest k i p l) := by
  unfold State.settleRequest
  split
  · exact (setInput_onlyLists ..).mixing
  · refine (giveWay_onlyLists s k).mixing.trans ?_
    dsimp only
    split
    · exact (appendEntry_onlyLists ..).mixing.trans (updateNom_onlyMixing ..)
    · split
      · exact (setInput_onlyLists ..).mixing
      · exact ((dropAndRetarget_onlyLists ..).trans (appendEntry_onlyLists ..)).mixing.trans
          (updateNom_onlyMixing ..)

theorem requestAdmission_onlyMixing (i : Fin 24) : OnlyMixing s (s.requestAdmission i) := by
  unfold State.requestAdmission
  split
  · exact (setInput_onlyLists ..).mixing
  · exact settleRequest_onlyMixing ..

theorem expireHold_onlyLists (k : Area) (i : Fin 24) : OnlyLists s (s.expireHold k i) := by
  unfold State.expireHold
  split
  · exact setArea_onlyLists ..
  · exact dropAndRetarget_onlyLists ..

theorem quietFrame_onlyMixing (i : Fin 24) : OnlyMixing s (s.quietFrame i) := by
  unfold State.quietFrame
  split
  · exact (setInput_onlyLists ..).mixing
  · dsimp only
    split
    · exact (((setArea_onlyLists s _ _).trans (setInput_onlyLists ..)).trans
        (expireHold_onlyLists ..)).mixing.trans (updateNom_onlyMixing ..)
    · exact ((setArea_onlyLists s _ _).trans (setInput_onlyLists ..)).mixing

theorem loudFrame_onlyLists (i : Fin 24) : OnlyLists s (s.loudFrame i) := by
  unfold State.loudFrame
  split
  · exact setInput_onlyLists ..
  · exact (setArea_onlyLists s _ _).trans (setInput_onlyLists ..)

theorem holdTick_onlyMixing (k : Area) : OnlyMixing s (s.holdTick k) := by
  unfold State.holdTick
  split
  · exact ((setArea_onlyLists s k _).trans
      (foldl_touches OnlyLists.refl OnlyLists.trans _ (fun s i => expireHold_onlyLists s k i) _ _)).mixing.trans
        (updateNom_onlyMixing ..)
  · exact .refl s

theorem releaseIf_onlyLists (k : Area) (b : Bool) :
    OnlyLists s (if b then s.releaseRetained k else s) := by
  split
  · exact releaseRetained_onlyLists ..
  · exact .refl s

theorem applySettings_onlyLists (k : Area) (old : AreaSettings) : OnlyLists s (s.applySettings k old) :=
  ((shedToMaxOpen_onlyLists s k .reduced).trans (releaseIf_onlyLists ..)).trans (releaseIf_onlyLists ..)

/-! ### One input frame -/

theorem qualify_onlyMixing (i : Fin 24) (n : Nat) : OnlyMixing s (s.qualify i n) := by
  unfold State.qualify
  dsimp only
  split
  · exact (setInput_onlyLists ..).mixing.trans (requestAdmission_onlyMixing ..)
  · exact (setInput_onlyLists ..).mixing

theorem gateAct_onlyMixing (i : Fin 24) (b : Band) : OnlyMixing s (s.gateAct i b) := by
  unfold State.gateAct
  split
  · exact qualify_onlyMixing ..
  · exact .refl s
  · exact qualify_onlyMixing ..
  · exact (setInput_onlyLists ..).mixing
  · exact requestAdmission_onlyMixing ..
  · exact (setInput_onlyLists ..).mixing
  · exact quietFrame_onlyMixing ..
  · exact .refl s
  · exact (loudFrame_onlyLists ..).mixing
  · exact .refl s

theorem gateStage_onlyMixing (i : Fin 24) : OnlyMixing s (s.gateStage i) := by
  unfold State.gateStage
  split
  · exact gateAct_onlyMixing ..
  · exact .refl s

theorem trackStage_onlyLists (i : Fin 24) (g : GateState) : OnlyLists s (s.trackStage i g) := by
  unfold State.trackStage
  split
  · exact setInput_onlyLists ..
  · exact .refl s

theorem inputFrame_onlyMixing (i : Fin 24) (xs : List Int) : OnlyMixing s (s.inputFrame i xs) := by
  unfold State.inputFrame
  dsimp only
  refine OnlyMixing.trans ?_ (setInput_onlyLists _ i _).mixing
  split
  · exact (setInput_onlyLists s i _).mixing
  · exact ((setInput_onlyLists s i _).mixing.trans (gateStage_onlyMixing ..)).trans
      (trackStage_onlyLists ..).mixing

/-! ### The area map -/

theorem mergeLists_onlyLists (x y : Area) : OnlyLists s (s.mergeLists x y) :=
  ((setArea_onlyLists s x _).trans (setArea_onlyLists _ x _)).trans (setArea_onlyLists _ y _)

theorem releaseCompany_onlyLists (k : Area) : OnlyLists s (s.releaseCompany k) := by
  unfold State.releaseCompany
  split
  · exact releaseRetained_onlyLists ..
  · exact .refl s

theorem releaseWhereNone_onlyLists (k : Area) : OnlyLists s (s.releaseWhereNone k) := by
  unfold State.releaseWhereNone
  split
  · exact releaseRetained_onlyLists ..
  · exact .refl s

theorem joinLists_onlyLists (x y : Area) : OnlyLists s (s.joinLists x y) :=
  (((mergeLists_onlyLists s x y).trans (releaseCompany_onlyLists ..)).trans
    (releaseWhereNone_onlyLists ..)).trans (shedToMaxOpen_onlyLists ..)

theorem splitLists_onlyLists (x y : Area) : OnlyLists s (s.splitLists x y) :=
  ((((setArea_onlyLists s x _).trans (setArea_onlyLists _ x _)).trans (setArea_onlyLists _ y _)).trans
    (shedToMaxOpen_onlyLists ..)).trans (releaseWhereNone_onlyLists ..)

theorem afterMapChange_onlyMixing (w : Fin 24 → Bool) : OnlyMixing s (s.afterMapChange w) :=
  (retarget_onlyLists s w).mixing.trans (reevaluate_onlyPlan ..).mixing

theorem joinArea_onlyMixing (x y : Area) : OnlyMixing s (s.joinArea x y) :=
  (((joinLists_onlyLists s x y).mixing.trans (updateNom_onlyMixing ..)).trans (updateNom_onlyMixing ..)).trans
    (afterMapChange_onlyMixing ..)

theorem splitArea_onlyMixing (x y : Area) : OnlyMixing s (s.splitArea x y) :=
  (((splitLists_onlyLists s x y).mixing.trans (updateNom_onlyMixing ..)).trans (updateNom_onlyMixing ..)).trans
    (afterMapChange_onlyMixing ..)

theorem changeMap_onlyLists (new : Area → Option Area) : OnlyLists s (s.changeMap new) := by
  refine (foldl_touches OnlyLists.refl OnlyLists.trans (State.splitForMap new) ?_ _ s).trans
    (foldl_touches OnlyLists.refl OnlyLists.trans (State.joinForMap new) ?_ _ _)
  · intro s k
    unfold State.splitForMap
    split
    · exact .refl s
    · split
      · exact .refl s
      · exact splitLists_onlyLists ..
  · intro s k
    unfold State.joinForMap
    split
    · exact .refl s
    · split
      · exact .refl s
      · exact joinLists_onlyLists ..

/-! ### Recalls and the alarm -/

theorem withdraw_onlyLists (i : Fin 24) : OnlyLists s (s.withdraw i) := by
  unfold State.withdraw
  split
  · exact setInput_onlyLists ..
  · split
    · exact dropEntry_onlyLists ..
    · exact setInput_onlyLists ..

theorem reckon_onlyMixing : OnlyMixing s s.reckon :=
  ((retime_onlyPlan s _).mixing.trans (retargetStanding_onlyLists _).mixing).trans (reevaluate_onlyPlan ..).mixing

theorem withdrawFor_onlyLists (scene : Scene) (i : Fin 24) : OnlyLists s (s.withdrawFor scene i) := by
  unfold State.withdrawFor
  split
  · exact withdraw_onlyLists ..
  · exact .refl s

theorem areaConsequence_onlyLists (before : Area → AreaSettings) (k : Area) :
    OnlyLists s (s.areaConsequence before k) := by
  unfold State.areaConsequence
  split
  · exact applySettings_onlyLists ..
  · exact .refl s

theorem setNom_onlyLists (k : Area) : OnlyLists s (s.setNom k) := setArea_onlyLists s k _

theorem putFields_onlySetup (scene : Scene) : OnlySetup s (s.putFields scene) :=
  ⟨_, _, _, _, _, _, _, rfl⟩

theorem putAreas_onlySetup (scene : Scene) : OnlySetup s (s.putAreas scene) := ⟨_, _, _, _, _, _, _, rfl⟩

theorem putTrims_onlySetup (keep : Bool) : OnlySetup s (s.putTrims keep) := ⟨_, _, _, _, _, _, _, rfl⟩

theorem putScene_onlySetup (scene : Scene) : OnlySetup s (s.putScene scene) := by
  unfold State.putScene
  dsimp only
  generalize allAreas = areas
  refine OnlySetup.trans ?_
    (foldl_touches OnlyLists.refl OnlyLists.trans _ setNom_onlyLists areas _).mixing.setup
  refine OnlySetup.trans ?_ (foldl_touches OnlyLists.refl OnlyLists.trans _
    (fun t k => areaConsequence_onlyLists t _ k) areas _).mixing.setup
  refine OnlySetup.trans ?_ (changeMap_onlyLists _ _).mixing.setup
  refine OnlySetup.trans ?_ (putAreas_onlySetup ..)
  refine OnlySetup.trans ?_ (putFields_onlySetup ..)
  exact (foldl_touches OnlyLists.refl OnlyLists.trans _
    (fun t i => withdrawFor_onlyLists t scene i) _ s).mixing.setup

theorem recall_onlySetup (k : Fin 64) (scene : Scene) (m : RecallMode) (keep : Bool) (c : RecallCause) :
    OnlySetup s (s.recall k scene m keep c) := by
  unfold State.recall
  dsimp only
  have put : OnlySetup s (((s.putScene scene).putTrims keep).reckon) :=
    ((putScene_onlySetup s scene).trans (putTrims_onlySetup ..)).trans (reckon_onlyMixing _).setup
  refine OnlySetup.trans ?_ (raise_onlyNotices ..).plan.mixing.setup
  cases m
  · exact put
  · exact put.trans (snapAll_onlyPlan _).mixing.setup

theorem enterAlarmState_onlySetupAndAlarm (st : AlarmState) : OnlySetupAndAlarm s (s.enterAlarmState st) := by
  obtain ⟨_, _, h⟩ := raise_touches { s with alarm := { s.alarm with state := st } } .alarmState 0
    (alarmStateCode st)
  exact ⟨_, _, _, _, _, _, _, _, h⟩

theorem enterFault_onlySetupAndAlarm (c : FaultCause) (x : ActionTaken) :
    OnlySetupAndAlarm s (s.enterFault c x) := by
  unfold State.enterFault
  refine OnlySetupAndAlarm.trans (OnlySetupAndAlarm.trans ?_ (enterAlarmState_onlySetupAndAlarm _ .fault))
    (raise_onlyNotices ..).plan.mixing.setup.setupAndAlarm
  exact ⟨_, _, _, _, _, _, _, _, rfl⟩

theorem takeOverride_onlySetupAndAlarm (c : OverrideCause) : OnlySetupAndAlarm s (s.takeOverride c) := by
  unfold State.takeOverride
  refine OnlySetupAndAlarm.trans (OnlySetupAndAlarm.trans
    (t := if s.alarm.cause = .noCause then s.setSelectors .alarmSource else s) ?_ ?_)
    (raise_onlyNotices ..).plan.mixing.setup.setupAndAlarm
  · split
    · exact ⟨_, _, _, _, _, _, _, _, rfl⟩
    · exact .refl s
  · exact ⟨_, _, _, _, _, _, _, _, rfl⟩

theorem endOverride_onlySetupAndAlarm : OnlySetupAndAlarm s s.endOverride := by
  obtain ⟨_, _, h⟩ := raise_touches (((s.setCause .noCause).floorReset).setSelectors .crosspointSum) .override 0 0
  exact ⟨_, _, _, _, _, _, _, _, h⟩

theorem expireSupervision_onlySetupAndAlarm : OnlySetupAndAlarm s s.expireSupervision := by
  unfold State.expireSupervision
  split
  · exact enterFault_onlySetupAndAlarm ..
  · exact (enterFault_onlySetupAndAlarm ..).trans (takeOverride_onlySetupAndAlarm ..)
  · split
    · exact enterFault_onlySetupAndAlarm ..
    · exact (enterFault_onlySetupAndAlarm ..).trans (recall_onlySetup ..).setupAndAlarm

theorem enterArmed_onlySetupAndAlarm : OnlySetupAndAlarm s s.enterArmed := by
  unfold State.enterArmed
  refine OnlySetupAndAlarm.trans (t := (s.loadTimer 1).enterAlarmState .armed) ?_ ?_
  · exact OnlySetupAndAlarm.trans ⟨_, _, _, _, _, _, _, _, rfl⟩ (enterAlarmState_onlySetupAndAlarm ..)
  · dsimp only
    split
    · exact expireSupervision_onlySetupAndAlarm ..
    · exact .refl _

end Sys2Proof.Machine
end

