-- ==== Sys2Proof/Laws/Level.lean ====
section
/-! SUPPORT. What the comparisons of the frame level decide (R27): `meanAtLeast` is exact, also where it works with
bounds, since sums of powers of the hundredth root of ten that differ keep apart. -/

namespace Sys2Proof.Machine

open Polynomial

/-! ### Sums of powers of a root of ten -/

/-- X^N − 10 is irreducible over the rationals (Eisenstein at 2). -/
theorem ten_irreducible (N : ℕ) (hN : 0 < N) : Irreducible (X ^ N - C 10 : ℚ[X]) := by
  have monic : (X ^ N - C 10 : ℤ[X]).Monic := monic_X_pow_sub_C 10 hN.ne'
  have e : (X ^ N - C 10 : ℚ[X]) = (X ^ N - C 10 : ℤ[X]).map (Int.castRingHom ℚ) := by
    rw [Polynomial.map_sub, Polynomial.map_pow, map_X, map_C]; norm_num
  rw [e, ← IsPrimitive.Int.irreducible_iff_irreducible_map_cast monic.isPrimitive]
  have deg : (X ^ N - C 10 : ℤ[X]).natDegree = N := natDegree_X_pow_sub_C
  refine irreducible_of_eisenstein_criterion (P := Ideal.span {2})
    ((Ideal.span_singleton_prime (by norm_num)).2 Int.prime_two) ?_ ?_ ?_ ?_ monic.isPrimitive
  · rw [monic.leadingCoeff, Ideal.mem_span_singleton]; norm_num
  · intro n hn
    rw [degree_eq_natDegree monic.ne_zero, deg, Nat.cast_lt] at hn
    rw [Ideal.mem_span_singleton, coeff_sub, coeff_X_pow, if_neg hn.ne, coeff_C]
    split <;> norm_num
  · rw [degree_eq_natDegree monic.ne_zero, deg]; exact_mod_cast hN
  · rw [Ideal.span_singleton_pow, Ideal.mem_span_singleton, coeff_sub, coeff_X_pow, coeff_C, if_neg hN.ne]; norm_num

/-- A sum S·α^a + H·α^b that is not F·α^c keeps away from it, where α is an N-th root of ten: the norm of the
difference is a whole number other than 0, and each of its conjugates is at most the sum of the three terms. -/
theorem one_le_abs_mul {K : Type} [Field K] [Algebra ℚ K] [FiniteDimensional ℚ K] {N : ℕ} (hN : 0 < N) (θ : K)
    (hθ : θ ^ N = 10) (dim : Module.finrank ℚ K = N) (α : ℝ) (h0 : 0 < α) (h : α ^ N = 10) (σ₀ : K →ₐ[ℚ] ℂ)
    (hσ : σ₀ θ = α) (S H F a b c : ℕ) (ne : (S : ℝ) * α ^ a + H * α ^ b ≠ F * α ^ c) :
    1 ≤ |(S : ℝ) * α ^ a + H * α ^ b - F * α ^ c| * (S * α ^ a + H * α ^ b + F * α ^ c) ^ (N - 1) := by
  classical
  obtain ⟨x, hx⟩ : ∃ x : K, x = S * θ ^ a + H * θ ^ b - F * θ ^ c := ⟨_, rfl⟩
  have root (σ : K →ₐ[ℚ] ℂ) : ‖σ θ‖ = α := by
    have : ‖σ θ‖ ^ N = α ^ N := by rw [h, ← norm_pow, ← map_pow, hθ, map_ofNat, Complex.norm_ofNat]
    exact (pow_left_inj₀ (norm_nonneg _) h0.le hN.ne').1 this
  have image (σ : K →ₐ[ℚ] ℂ) : σ x = S * σ θ ^ a + H * σ θ ^ b - F * σ θ ^ c := by simp [hx]
  have bound (σ : K →ₐ[ℚ] ℂ) : ‖σ x‖ ≤ S * α ^ a + H * α ^ b + F * α ^ c := by
    rw [image]
    refine (norm_sub_le _ _).trans (add_le_add ((norm_add_le _ _).trans (add_le_add ?_ ?_)) ?_) <;> simp [root]
  have value : ‖σ₀ x‖ = |(S : ℝ) * α ^ a + H * α ^ b - F * α ^ c| := by
    rw [image, hσ, ← Real.norm_eq_abs, ← Complex.norm_real]; push_cast; rfl
  have x0 : x ≠ 0 := by
    intro e
    rw [e, map_zero, norm_zero, eq_comm, abs_eq_zero, sub_eq_zero] at value
    exact ne value
  have integral : IsIntegral ℤ x := by
    have θi : IsIntegral ℤ θ := .of_pow hN (by rw [hθ]; exact_mod_cast (isIntegral_natCast 10 : IsIntegral ℤ ((10 : ℕ) : K)))
    rw [hx]
    exact (((isIntegral_natCast S).mul (θi.pow a)).add ((isIntegral_natCast H).mul (θi.pow b))).sub
      ((isIntegral_natCast F).mul (θi.pow c))
  obtain ⟨n, hn⟩ := IsIntegrallyClosed.isIntegral_iff.1 (Algebra.isIntegral_norm ℚ integral)
  have n0 : n ≠ 0 := by
    rintro rfl
    exact x0 ((Algebra.norm_eq_zero_iff (R := ℚ)).1 (by rw [← hn, map_zero]))
  have prod : ‖((n : ℤ) : ℂ)‖ = ∏ σ : K →ₐ[ℚ] ℂ, ‖σ x‖ := by
    rw [← norm_prod, ← Algebra.norm_eq_prod_embeddings ℚ ℂ x, ← hn]; simp
  have card : Fintype.card (K →ₐ[ℚ] ℂ) = N := by rw [AlgHom.card, dim]
  have : (1 : ℝ) ≤ ‖((n : ℤ) : ℂ)‖ := by
    rw [Complex.norm_intCast]; exact_mod_cast Int.one_le_abs n0
  refine this.trans (prod.trans_le ?_)
  rw [← Finset.mul_prod_erase Finset.univ _ (Finset.mem_univ σ₀), value]
  refine mul_le_mul_of_nonneg_left ((Finset.prod_le_prod (fun σ _ => norm_nonneg _) fun σ _ => bound σ).trans_eq ?_) (abs_nonneg _)
  rw [Finset.prod_const, Finset.card_erase_of_mem (Finset.mem_univ _), Finset.card_univ, card]

/-- `one_le_abs_mul` in the field that the polynomial X^N − 10 makes. -/
theorem apart {N : ℕ} (hN : 0 < N) (α : ℝ) (h0 : 0 < α) (h : α ^ N = 10) (S H F a b c : ℕ)
    (ne : (S : ℝ) * α ^ a + H * α ^ b ≠ F * α ^ c) :
    1 ≤ |(S : ℝ) * α ^ a + H * α ^ b - F * α ^ c| * (S * α ^ a + H * α ^ b + F * α ^ c) ^ (N - 1) := by
  have irr : Fact (Irreducible (X ^ N - C 10 : ℚ[X])) := ⟨ten_irreducible N hN⟩
  have pb := AdjoinRoot.powerBasis_dim irr.out.ne_zero
  have fin := (AdjoinRoot.powerBasis irr.out.ne_zero).finite
  have αC : (α : ℂ) ^ N = 10 := by exact_mod_cast h
  have root := AdjoinRoot.eval₂_root (X ^ N - C 10 : ℚ[X])
  refine one_le_abs_mul hN (AdjoinRoot.root (X ^ N - C 10 : ℚ[X])) (by simpa [sub_eq_zero] using root)
    ?_ α h0 h (AdjoinRoot.liftAlgHom (X ^ N - C 10 : ℚ[X]) (Algebra.ofId ℚ ℂ) (α : ℂ) (by simp [αC]))
    (AdjoinRoot.liftAlgHom_root ..) S H F a b c ne
  rw [(AdjoinRoot.powerBasis irr.out.ne_zero).finrank, pb]
  exact natDegree_X_pow_sub_C

/-- Powers of an N-th root of ten of different residues are independent over the rationals: two of them with
positive coefficients make no multiple of a third. -/
theorem independent {N : ℕ} (hN : 0 < N) (α : ℝ) (h : α ^ N = 10) (S H F a b c : ℕ) (ab : a % N ≠ b % N)
    (S0 : 0 < S) (H0 : 0 < H) : (S : ℝ) * α ^ a + H * α ^ b ≠ F * α ^ c := by
  intro e
  have reduce (n : ℕ) : α ^ n = 10 ^ (n / N) * α ^ (n % N) := by
    conv_lhs => rw [← Nat.div_add_mod n N]
    rw [pow_add, pow_mul, h]
  obtain ⟨p, hp⟩ : ∃ p : ℚ[X], p = C (S * 10 ^ (a / N) : ℚ) * X ^ (a % N) + C (H * 10 ^ (b / N) : ℚ) * X ^ (b % N)
    - C (F * 10 ^ (c / N) : ℚ) * X ^ (c % N) := ⟨_, rfl⟩
  have zero : aeval α p = 0 := by
    rw [reduce a, reduce b, reduce c] at e
    simp [hp]
    linear_combination e
  have min : minpoly ℚ α = X ^ N - C 10 :=
    (minpoly.eq_of_irreducible_of_monic (ten_irreducible N hN) (by simp [h]) (monic_X_pow_sub_C 10 hN.ne')).symm
  have deg : p.degree < N := by
    have one (q : ℚ) (n : ℕ) : (C q * X ^ (n % N) : ℚ[X]).degree < N :=
      (degree_C_mul_X_pow_le _ _).trans_lt (by exact_mod_cast Nat.mod_lt n hN)
    rw [hp]
    exact (degree_sub_le _ _).trans_lt (max_lt ((degree_add_le _ _).trans_lt (max_lt (one _ _) (one _ _))) (one _ _))
  have p0 : p = 0 := by
    by_contra hp
    have := minpoly.degree_le_of_ne_zero ℚ α hp zero
    rw [min, degree_X_pow_sub_C hN] at this
    exact absurd (this.trans_lt deg) (lt_irrefl _)
  have ca := congrArg (coeff · (a % N)) p0
  have cb := congrArg (coeff · (b % N)) p0
  simp only [hp, coeff_sub, coeff_add, coeff_C_mul, coeff_X_pow, coeff_zero, if_pos, if_neg ab, if_neg ab.symm] at ca cb
  have pa : (0 : ℚ) < S * 10 ^ (a / N) := by positivity
  have pb : (0 : ℚ) < H * 10 ^ (b / N) := by positivity
  by_cases ac : a % N = c % N
  · rw [if_neg (fun e : b % N = c % N => ab (ac.trans e.symm))] at cb; linarith
  · rw [if_neg ac] at ca; linarith

/-! ### The comparisons of the frame level -/

/-- The number that `searchDown` finds is accepted and the next one is not, for a test that accepts what is below an
accepted number. -/
theorem searchDown_spec (accepts : ℕ → Bool) (down : ∀ a b, a ≤ b → accepts b = true → accepts a = true) :
    ∀ bits found, accepts found = true → accepts (found + 2 ^ bits) = false →
      accepts (searchDown accepts bits found) = true ∧ accepts (searchDown accepts bits found + 1) = false
  | 0, found, low, high => ⟨low, high⟩
  | bits + 1, found, low, high => by
    unfold searchDown
    by_cases h : accepts (found + 2 ^ bits) = true
    · rw [if_pos h]
      exact searchDown_spec accepts down bits _ h (by rw [add_assoc, ← two_mul, ← pow_succ']; exact high)
    · rw [if_neg h]
      exact searchDown_spec accepts down bits _ low (by simpa using h)

/-- The whole numbers that enclose 2^bits times ten to the power r/100, where α is ten to the power 1/100. -/
theorem rootOfTen_spec {α : ℝ} (h0 : 0 < α) (h : α ^ 100 = 10) (bits r : ℕ) (hr : r < 100) :
    (rootOfTen bits r : ℝ) ≤ 2 ^ bits * α ^ r ∧ 2 ^ bits * α ^ r < rootOfTen bits r + 1 := by
  have key (n : ℕ) : n ^ 100 ≤ 2 ^ (100 * bits) * 10 ^ r ↔ (n : ℝ) ≤ 2 ^ bits * α ^ r := by
    rw [← pow_le_pow_iff_left₀ (Nat.cast_nonneg n : (0 : ℝ) ≤ n) (by positivity) (by norm_num : (100 : ℕ) ≠ 0), mul_pow, ← pow_mul,
      ← pow_mul, mul_comm r, pow_mul α, h, mul_comm bits]
    exact_mod_cast Iff.rfl
  have spec := searchDown_spec (fun n => decide (n ^ 100 ≤ 2 ^ (100 * bits) * 10 ^ r)) (by
    intro a b ab hb
    rw [decide_eq_true_iff] at hb ⊢
    exact (Nat.pow_le_pow_left ab 100).trans hb) (bits + 4) 0 (by simp) (by
    rw [decide_eq_false_iff_not, not_le, zero_add, ← pow_mul, add_mul, pow_add, mul_comm bits]
    refine Nat.mul_lt_mul_of_pos_left ?_ (by positivity)
    exact (Nat.pow_lt_pow_right (by norm_num) hr).trans_le (by decide +kernel))
  rw [decide_eq_true_iff, decide_eq_false_iff_not, key, key, not_le] at spec
  exact ⟨spec.1, by exact_mod_cast spec.2⟩

variable {α : ℝ} (h0 : 0 < α) (h : α ^ 100 = 10)

include h0 h in
/-- A trim's power of ten from its whole part and its hundredths. -/
theorem trim_power (trim : ℤ) :
    10 ^ (-(trim / 100)).toNat * α ^ trim = 10 ^ (trim / 100).toNat * α ^ (trim % 100).toNat := by
  have split : trim = 100 * (trim / 100) + trim % 100 := (Int.mul_ediv_add_emod trim 100).symm
  have α0 : α ≠ 0 := h0.ne'
  have part : α ^ trim = 10 ^ (trim / 100) * α ^ (trim % 100).toNat := by
    conv_lhs => rw [split]
    rw [zpow_add₀ α0, zpow_mul, ← zpow_natCast α, Int.toNat_of_nonneg (by omega)]
    rw [← h]
    norm_cast
  rw [part, ← mul_assoc]
  congr 1
  rw [← zpow_natCast, ← zpow_natCast, ← zpow_add₀ (by norm_num)]
  congr 1
  omega

include h0 h in
/-- The bounds that `mixedAtLeast` compares, in units of 2^bits times the power of ten that makes them whole. -/
theorem mixed_bounds (bits : ℕ) (trim : ℤ) (scaled held : ℕ) :
    let unit : ℝ := 2 ^ bits * 10 ^ (-(trim / 100)).toNat
    let low := rootOfTen bits (trim % 100).toNat
    let sum := fun root : ℕ => scaled * root * 10 ^ (trim / 100).toNat + held * 2 ^ bits * 10 ^ (-(trim / 100)).toNat
    ((sum low : ℕ) : ℝ) ≤ unit * (scaled * α ^ trim + held)
      ∧ unit * (scaled * α ^ trim + held) ≤ (sum (if (trim % 100).toNat = 0 then low else low + 1) : ℕ) := by
  intro unit low sum
  have root := rootOfTen_spec h0 h bits (trim % 100).toNat (by omega)
  have power := trim_power h0 h trim
  have value : unit * (scaled * α ^ trim + held)
      = scaled * (2 ^ bits * α ^ (trim % 100).toNat) * 10 ^ (trim / 100).toNat
        + held * 2 ^ bits * 10 ^ (-(trim / 100)).toNat := by
    simp only [unit]; linear_combination (2 : ℝ) ^ bits * scaled * power
  rw [value]
  simp only [sum]
  push_cast
  constructor
  · gcongr; exact root.1
  · gcongr
    split
    next r0 =>
      have exact_ : low = 2 ^ bits := by
        rw [r0] at root
        simp only [low, r0]
        rw [pow_zero, mul_one] at root
        have h1 : rootOfTen bits 0 ≤ 2 ^ bits := by exact_mod_cast root.1
        have h2 : 2 ^ bits < rootOfTen bits 0 + 1 := by exact_mod_cast root.2
        omega
      rw [r0, exact_]; simp
    · exact_mod_cast root.2.le

/-- A comparison with ten to the power -j/100, through hundredth powers. -/
theorem hundredth_powers (h0 : 0 < α) (h : α ^ 100 = 10) (full sum j : ℕ) :
    full ^ 100 ≤ sum ^ 100 * 10 ^ j ↔ (full : ℝ) ≤ sum * α ^ j := by
  rw [← pow_le_pow_iff_left₀ (Nat.cast_nonneg full : (0 : ℝ) ≤ full) (by positivity) (by norm_num : (100 : ℕ) ≠ 0), mul_pow, ← pow_mul,
    mul_comm j, pow_mul α, h]
  exact_mod_cast Iff.rfl

include h0 h in
/-- Where `mixedAtLeast` decides, it decides right. -/
theorem mixedAtLeast_some {bits : ℕ} {trim : ℤ} {scaled held j : ℕ} {answer : Bool}
    (decided : mixedAtLeast bits trim scaled held j = some answer) :
    answer = true ↔ (fullEnergy : ℝ) ≤ (scaled * α ^ trim + held) * α ^ j := by
  have bounds := mixed_bounds h0 h bits trim scaled held
  unfold mixedAtLeast at decided
  simp only at decided bounds
  obtain ⟨top, htop⟩ : ∃ top, top = if (trim % 100).toNat = 0 then rootOfTen bits (trim % 100).toNat
    else rootOfTen bits (trim % 100).toNat + 1 := ⟨_, rfl⟩
  rw [← htop] at decided bounds
  set unit : ℝ := 2 ^ bits * 10 ^ (-(trim / 100)).toNat
  have unit0 : 0 < unit := by positivity
  have whole : ((fullEnergy * 2 ^ bits * 10 ^ (-(trim / 100)).toNat : ℕ) : ℝ) = unit * fullEnergy := by
    simp only [unit]; push_cast; ring
  have αj : 0 < α ^ j := by positivity
  split at decided
  · next yes =>
    rw [hundredth_powers h0 h, whole] at yes
    cases decided
    refine iff_of_true rfl (le_of_mul_le_mul_left ?_ unit0)
    rw [← mul_assoc]
    exact yes.trans (mul_le_mul_of_nonneg_right bounds.1 αj.le)
  · split at decided
    · next no =>
      rw [← not_le, hundredth_powers h0 h, whole, not_le] at no
      cases decided
      refine iff_of_false (by simp) fun le => ?_
      have := mul_le_mul_of_nonneg_left le unit0.le
      rw [← mul_assoc] at this
      exact absurd (this.trans (mul_le_mul_of_nonneg_right bounds.2 αj.le)) (not_le.2 no)
    · cases decided

/-- The bound on every sum of squares of a frame. -/
theorem fullEnergy_lt : fullEnergy < 2 ^ 68 := by unfold fullEnergy Config.fullScale; norm_num

include h0 h in
/-- With 16384 bits `mixedAtLeast` always decides, in the range of R24's trims and R27's levels. -/
theorem mixedAtLeast_decides {trim : ℤ} {scaled held j : ℕ} (low : -200 ≤ trim) (high : trim ≤ 200)
    (hs : scaled ≤ fullEnergy) (hh : held ≤ fullEnergy) (held0 : 0 < held) (hj : j ≤ 2047) :
    mixedAtLeast 16384 trim scaled held j ≠ none := by
  intro undecided
  generalize hbits : 16384 = bits at undecided
  have bounds := mixed_bounds h0 h bits trim scaled held
  unfold mixedAtLeast at undecided
  simp only at undecided bounds
  obtain ⟨top, htop⟩ : ∃ top, top = if (trim % 100).toNat = 0 then rootOfTen bits (trim % 100).toNat
    else rootOfTen bits (trim % 100).toNat + 1 := ⟨_, rfl⟩
  rw [← htop] at undecided bounds
  split at undecided
  · cases undecided
  next no =>
  split at undecided
  · cases undecided
  next maybe =>
  set unit : ℝ := 2 ^ bits * 10 ^ (-(trim / 100)).toNat with hunit
  have unit0 : 0 < unit := by positivity
  have whole : ((fullEnergy * 2 ^ bits * 10 ^ (-(trim / 100)).toNat : ℕ) : ℝ) = unit * fullEnergy := by
    simp only [unit]; push_cast; ring
  rw [hundredth_powers h0 h, whole, not_le] at no
  rw [not_lt, hundredth_powers h0 h, whole] at maybe
  have r0 : (trim % 100).toNat ≠ 0 := by
    intro e; rw [htop, if_pos e] at maybe; exact absurd maybe (not_le.2 no)
  rw [if_neg r0] at htop
  have S0 : 0 < scaled := by
    rcases Nat.eq_zero_or_pos scaled with rfl | h
    · simp only [zero_mul] at maybe no; exact absurd maybe (not_le.2 no)
    · exact h
  have αj : 0 < α ^ j := by positivity
  have α1 : 1 ≤ α := by
    by_contra lt
    have := pow_le_one₀ (n := 100) h0.le (not_le.1 lt).le
    rw [h] at this; norm_num at this
  have grow (n : ℕ) (hn : n ≤ 2500) : α ^ n ≤ 2 ^ 84 :=
    (pow_le_pow_right₀ α1 hn).trans (by rw [show 2500 = 100 * 25 from rfl, pow_mul, h]; norm_num)
  have S1 : (scaled : ℝ) ≤ 2 ^ 68 := by exact_mod_cast (hs.trans fullEnergy_lt.le)
  have H1 : (held : ℝ) ≤ 2 ^ 68 := by exact_mod_cast (hh.trans fullEnergy_lt.le)
  have F1 : (fullEnergy : ℝ) ≤ 2 ^ 68 := by exact_mod_cast fullEnergy_lt.le
  have close : |(scaled * α ^ trim + held) * α ^ j - fullEnergy| ≤ 2 ^ 160 / 2 ^ bits := by
    have gap : ((scaled * top * 10 ^ (trim / 100).toNat + held * 2 ^ bits * 10 ^ (-(trim / 100)).toNat : ℕ) : ℝ)
        = (scaled * rootOfTen bits (trim % 100).toNat * 10 ^ (trim / 100).toNat
            + held * 2 ^ bits * 10 ^ (-(trim / 100)).toNat : ℕ) + scaled * 10 ^ (trim / 100).toNat := by
      rw [htop]; push_cast; ring
    rw [gap] at bounds maybe
    have b1 := mul_le_mul_of_nonneg_right bounds.1 αj.le
    have b2 := mul_le_mul_of_nonneg_right bounds.2 αj.le
    have one : (1 : ℝ) ≤ 10 ^ (-(trim / 100)).toNat := one_le_pow₀ (by norm_num)
    have ten : (10 : ℝ) ^ (trim / 100).toNat ≤ 2 ^ 8 :=
      (pow_le_pow_right₀ (by norm_num) (show (trim / 100).toNat ≤ 2 by omega)).trans (by norm_num)
    have small : scaled * 10 ^ (trim / 100).toNat * α ^ j ≤ 2 ^ 160 :=
      (mul_le_mul (mul_le_mul S1 ten (by positivity) (by positivity)) (grow j (by omega)) αj.le (by positivity)).trans_eq
        (by norm_num)
    have unit1 : (2 : ℝ) ^ bits ≤ unit := le_mul_of_one_le_right (by positivity) one
    rw [le_div_iff₀ (by positivity)]
    refine (mul_le_mul_of_nonneg_left unit1 (abs_nonneg _)).trans ((?_ : _ ≤ _).trans small)
    rw [show |(scaled * α ^ trim + held) * α ^ j - fullEnergy| * unit
        = |((scaled * α ^ trim + held) * α ^ j - fullEnergy) * unit| by rw [abs_mul, abs_of_pos unit0], abs_le]
    constructor <;> nlinarith
  obtain ⟨u, hu⟩ : ∃ u : ℕ, (u : ℤ) = trim + 200 := ⟨(trim + 200).toNat, by omega⟩
  have shift : α ^ trim * α ^ 200 = α ^ u := by
    rw [← zpow_natCast α u, hu, zpow_add₀ h0.ne']; norm_cast
  have value : (scaled : ℝ) * α ^ (u + j) + held * α ^ (200 + j) - fullEnergy * α ^ 200
      = ((scaled * α ^ trim + held) * α ^ j - fullEnergy) * α ^ 200 := by
    rw [pow_add, pow_add, ← shift]; ring
  have far := apart (by norm_num) α h0 h scaled held fullEnergy (u + j) (200 + j) 200
    (independent (by norm_num) α h _ _ _ _ _ _ (by omega) S0 held0)
  have size : (scaled : ℝ) * α ^ (u + j) + held * α ^ (200 + j) + fullEnergy * α ^ 200 ≤ 2 ^ 154 :=
    (add_le_add (add_le_add (mul_le_mul S1 (grow _ (by omega)) (by positivity) (by positivity))
      (mul_le_mul H1 (grow _ (by omega)) (by positivity) (by positivity)))
      (mul_le_mul F1 (grow _ (by omega)) (by positivity) (by positivity))).trans (by norm_num)
  rw [value, abs_mul, abs_of_pos (by positivity : 0 < α ^ 200)] at far
  have upper := far.trans (mul_le_mul (mul_le_mul close (grow 200 (by norm_num)) (by positivity) (by positivity))
    (pow_le_pow_left₀ (by positivity) size (100 - 1)) (by positivity) (by positivity))
  rw [← pow_mul, div_mul_eq_mul_div, div_mul_eq_mul_div, le_div_iff₀ (by positivity), one_mul, ← pow_add, ← pow_add,
    pow_le_pow_iff_right₀ (by norm_num), ← hbits] at upper
  omega

include h0 h in
/-- R27, steps 3 and 4, where α is ten to the power 1/100: what `meanAtLeast` decides. -/
theorem meanAtLeast_iff_pow {trim : ℤ} {scaled held j : ℕ} (low : -200 ≤ trim) (high : trim ≤ 200)
    (hs : scaled ≤ fullEnergy) (hh : held ≤ fullEnergy) (hj : j ≤ 2047) :
    meanAtLeast trim scaled held j = true ↔ (fullEnergy : ℝ) ≤ (scaled * α ^ trim + held) * α ^ j := by
  unfold meanAtLeast
  split
  · next held0 =>
    rw [decide_eq_true_iff, ← Nat.cast_le (α := ℝ), held0]
    have tens : (10 : ℝ) ^ trim.toNat = (α ^ trim) ^ 100 * 10 ^ (-trim).toNat := by
      rw [← zpow_natCast (α ^ trim), ← zpow_mul, mul_comm trim, zpow_mul, zpow_natCast, h, ← zpow_natCast,
        ← zpow_natCast, ← zpow_add₀ (by norm_num)]
      congr 1; omega
    have order (x y z w : ℝ) : x * (y * z) * w = x * y * w * z := by ring
    have hundred : (α ^ j) ^ 100 = 10 ^ j := by rw [← pow_mul, mul_comm, pow_mul, h]
    simp only [Nat.cast_mul, Nat.cast_pow, Nat.cast_ofNat, Nat.cast_zero]
    rw [tens, add_zero, ← pow_le_pow_iff_left₀ (Nat.cast_nonneg fullEnergy : (0 : ℝ) ≤ fullEnergy) (by positivity)
      (by norm_num : (100 : ℕ) ≠ 0), mul_pow, mul_pow, hundred,
      order, mul_le_mul_iff_left₀ (by positivity : (0 : ℝ) < 10 ^ (-trim).toNat)]
  · next held0 =>
    have decides := mixedAtLeast_decides h0 h low high hs hh (Nat.pos_of_ne_zero held0) hj
    split
    · next answer first => exact mixedAtLeast_some h0 h first
    · obtain ⟨answer, second⟩ := Option.ne_none_iff_exists'.1 decides
      rw [second]; exact mixedAtLeast_some h0 h second

/-- R27, steps 3 and 4: what `meanAtLeast` decides, in the range of R24's trims and R27's levels. -/
theorem meanAtLeast_iff {trim : ℤ} {scaled held j : ℕ} (low : -200 ≤ trim) (high : trim ≤ 200)
    (hs : scaled ≤ fullEnergy) (hh : held ≤ fullEnergy) (hj : j ≤ 2047) :
    meanAtLeast trim scaled held j = true
      ↔ (10 : ℝ) ^ (-(j : ℝ) / 100) * fullEnergy ≤ scaled * (10 : ℝ) ^ ((trim : ℝ) / 100) + held := by
  have root : ((10 : ℝ) ^ ((1 : ℝ) / 100)) ^ 100 = 10 := by
    rw [← Real.rpow_natCast, ← Real.rpow_mul (by norm_num)]; norm_num
  have α0 : 0 < (10 : ℝ) ^ ((1 : ℝ) / 100) := by positivity
  have power : (10 : ℝ) ^ ((trim : ℝ) / 100) = ((10 : ℝ) ^ ((1 : ℝ) / 100)) ^ trim := by
    rw [← Real.rpow_intCast, ← Real.rpow_mul (by norm_num)]; congr 1; ring
  have level : (10 : ℝ) ^ (-(j : ℝ) / 100) = (((10 : ℝ) ^ ((1 : ℝ) / 100)) ^ j)⁻¹ := by
    rw [← Real.rpow_natCast, ← Real.rpow_mul (by norm_num), ← Real.rpow_neg (by norm_num)]; congr 1; ring
  rw [meanAtLeast_iff_pow α0 root low high hs hh hj, power, level, inv_mul_le_iff₀ (by positivity), mul_comm]

/-- R27, step 2: what `withinFullScale` decides. -/
theorem withinFullScale_iff (trim x : ℤ) :
    withinFullScale trim x = true
      ↔ (x.natAbs : ℝ) * (10 : ℝ) ^ ((trim : ℝ) / 200) ≤ Config.fullScale := by
  unfold withinFullScale atMostScaled
  have power : ((10 : ℝ) ^ ((trim : ℝ) / 200)) ^ 200 = 10 ^ trim := by
    rw [← Real.rpow_natCast, ← Real.rpow_mul (by norm_num), ← Real.rpow_intCast]; congr 1; push_cast; ring
  have tens : (10 : ℝ) ^ trim.toNat = 10 ^ trim * 10 ^ (-trim).toNat := by
    rw [← zpow_natCast, ← zpow_natCast, ← zpow_add₀ (by norm_num)]; congr 1; omega
  rw [decide_eq_true_iff, ← Nat.cast_le (α := ℝ), neg_neg]
  simp only [Nat.cast_mul, Nat.cast_pow, Nat.cast_ofNat]
  rw [tens, ← pow_le_pow_iff_left₀ (by positivity) (Nat.cast_nonneg Config.fullScale : (0 : ℝ) ≤ Config.fullScale)
    (by norm_num : (200 : ℕ) ≠ 0), mul_pow, power,
    ← mul_assoc, mul_le_mul_iff_left₀ (by positivity : (0 : ℝ) < 10 ^ (-trim).toNat)]

end Sys2Proof.Machine
end

