-- ==== Sys2Proof/Laws/Receive.lean ====
section
/-! SUPPORT. What the bytes that arrive on a line can do. -/

namespace Sys2Proof.Machine

variable (s : State) (line : Line)

/-! ### Lines that listen -/

theorem listens_iff : s.listens line = true ↔ s.powered = true ∧ (s.line line).reply = none := by
  simp [State.listens]

theorem not_listens_iff : s.listens line = false ↔ s.powered = false ∨ (s.line line).reply ≠ none := by
  rw [← Bool.not_eq_true, listens_iff]
  cases s.powered <;> simp

@[simp] theorem setReceiver_line (r : Receiver) :
    (s.setReceiver line r).line line = { s.line line with receiver := r } := by simp [State.setReceiver]

@[simp] theorem setReceiver_listens (r : Receiver) : (s.setReceiver line r).listens line = s.listens line := by
  simp [State.listens, State.setReceiver]

@[simp] theorem setReceiver_setReceiver (r q : Receiver) :
    (s.setReceiver line r).setReceiver line q = s.setReceiver line q := by
  cases line <;> rfl

@[simp] theorem setReceiver_self : s.setReceiver line (s.line line).receiver = s := by cases line <;> rfl

/-- A line whose reply has just become pending does not listen. -/
theorem settle_deaf (a : Answer) (kind tag : Byte) : (a.settle line kind tag).listens line = false :=
  (not_listens_iff _ _).2 (.inr (by simp))

/-! ### Bytes -/

@[simp] theorem feed_nil : s.feed line [] = s := rfl

@[simp] theorem feed_cons (b : Byte) (bs : List Byte) :
    s.feed line (b :: bs) = (s.feedByte line b).feed line bs := rfl

theorem feed_append (bs cs : List Byte) : s.feed line (bs ++ cs) = (s.feed line bs).feed line cs :=
  List.foldl_append

/-- A line that does not listen ignores a byte. -/
theorem feedByte_deaf {b : Byte} (h : s.listens line = false) : s.feedByte line b = s := by
  simp [State.feedByte, h]

/-- A line that does not listen ignores bytes. -/
theorem feed_deaf (bs : List Byte) (h : s.listens line = false) : s.feed line bs = s := by
  induction bs with
  | nil => rfl
  | cons b bs ih => rw [feed_cons, feedByte_deaf s line h, ih]

/-- A byte that completes a good frame has its request taken. -/
theorem feedByte_good {b : Byte} (h : s.listens line = true)
    (good : ((s.line line).receiver.completes b).any goodCheck = true) :
    s.feedByte line b = s.takeFrame line ((s.line line).receiver.kept ++ [b]) := by
  simp only [State.feedByte, h, good, if_true]

/-- Any other byte moves the receiver alone. -/
theorem feedByte_quiet {b : Byte} (h : s.listens line = true)
    (bad : ((s.line line).receiver.completes b).any goodCheck = false) :
    s.feedByte line b = s.setReceiver line ((s.line line).receiver.byte b) := by
  simp [State.feedByte, h, bad]

/-- Bytes that complete no good frame move the receiver alone. -/
theorem feed_quiet (bs : List Byte) (h : s.listens line = true)
    (bad : completesGood (s.line line).receiver bs = false) :
    s.feed line bs = s.setReceiver line ((s.line line).receiver.bytes bs) := by
  induction bs generalizing s with
  | nil => cases line <;> rfl
  | cons b bs ih =>
    simp only [completesGood, Bool.or_eq_false_iff] at bad
    rw [feed_cons, feedByte_quiet s line h bad.1, ih _ (by simpa using h) (by simpa using bad.2)]
    simp [Receiver.bytes]

/-- What bytes on a line can do: nothing where the line does not listen; else they move its receiver, or they
bring it to a good frame, whose request is taken and after which the line does not listen. -/
theorem feed_cases (bs : List Byte) :
    (s.feed line bs = s)
      ∨ (∃ r, s.feed line bs = s.setReceiver line r)
      ∨ ∃ r frame, s.listens line = true ∧ s.feed line bs = (s.setReceiver line r).takeFrame line frame := by
  induction bs generalizing s with
  | nil => exact .inl rfl
  | cons b bs ih =>
    cases h : s.listens line with
    | false => exact .inl (feed_deaf s line _ h)
    | true =>
      cases good : ((s.line line).receiver.completes b).any goodCheck with
      | true =>
        refine .inr (.inr ⟨(s.line line).receiver, (s.line line).receiver.kept ++ [b], rfl, ?_⟩)
        rw [feed_cons, feedByte_good s line h good, setReceiver_self]
        exact feed_deaf _ _ _ (settle_deaf ..)
      | false =>
        rw [feed_cons, feedByte_quiet s line h good]
        rcases ih (s.setReceiver line ((s.line line).receiver.byte b)) with e | ⟨r, e⟩ | ⟨r, frame, _, e⟩
        · exact .inr (.inl ⟨_, e⟩)
        · exact .inr (.inl ⟨r, by rw [e, setReceiver_setReceiver]⟩)
        · exact .inr (.inr ⟨r, frame, rfl, by rw [e, setReceiver_setReceiver]⟩)

/-- What every receiver may hold, and every request keeps, bytes keep. -/
theorem feed_keeps {P : State → Prop} (moved : ∀ s r, P s → P (s.setReceiver line r))
    (taken : ∀ s frame, P s → P (s.takeFrame line frame)) (bs : List Byte) (h : P s) : P (s.feed line bs) := by
  rcases feed_cases s line bs with e | ⟨r, e⟩ | ⟨r, frame, _, e⟩
  · rwa [e]
  · rw [e]; exact moved _ _ h
  · rw [e]; exact taken _ _ (moved _ _ h)

/-! ### Whole frames (R155) -/

variable {line}

/-- A frame on a line that hunts and has no reply pending is taken. -/
theorem request_taken (kind tag : Byte) (body : List Byte) (answer : State → Answer)
    (powered : s.powered = true) (free : (s.line line).reply = none)
    (hunts : (s.line line).receiver.state = .hunt) :
    s.request line kind tag body answer = .next ((answer s).settle line kind tag) := by
  simp [State.request, State.listens, powered, free, hunts]

/-- A frame on a line with a reply pending is discarded. -/
theorem request_discarded (kind tag : Byte) (body : List Byte) (answer : State → Answer)
    (pending : (s.line line).reply ≠ none) : s.request line kind tag body answer = .next s := by
  simp [State.request, (not_listens_iff s line).2 (.inr pending)]

/-- A frame amid another frame is that frame's data. -/
theorem request_amid (kind tag : Byte) (body : List Byte) (answer : State → Answer)
    (powered : s.powered = true) (free : (s.line line).reply = none)
    (amid : (s.line line).receiver.state ≠ .hunt) :
    s.request line kind tag body answer = .next (s.feed line (frameOf kind tag body)) := by
  simp [State.request, State.listens, powered, free, amid]

/-- A frame leaves everything, is settled, or is fed to its line. -/
theorem request_cases (line : Line) (kind tag : Byte) (body : List Byte) (answer : State → Answer) :
    s.request line kind tag body answer = .next s
      ∨ s.request line kind tag body answer = .next ((answer s).settle line kind tag)
      ∨ s.request line kind tag body answer = .next (s.feed line (frameOf kind tag body)) := by
  unfold State.request
  split
  · split
    · exact .inr (.inl rfl)
    · exact .inr (.inr rfl)
  · exact .inl rfl

end Sys2Proof.Machine
end

