-- ==== Sys2Proof/Tests/Slice0.lean ====
section
/-! SUPPORT. Tests on fixed values, each with its source in spec/, and for each statement with hypotheses a
witness that meets them. -/

namespace Sys2Proof.Tests

set_option Elab.async false

open Sys2Proof.Machine Sys2Proof.Safety

/-! ### Reading an outcome -/

/-- What a reading of the next state gives, if there is one. -/
def reads {α : Type} (c : Instr) (s : State) (f : State → α) : Option α :=
  match exec c s with
  | .next t => some (f t)
  | _ => none

/-- The bytes of the control line's reply from the result byte on, check bytes apart. -/
def answer (c : Instr) (s : State) : Option (List Byte) :=
  (reads c s fun t => t.control.reply.map fun frame => (frame.drop 5).take (frame.length - 7)).join

/-- The result byte of the control line's reply. -/
def result (c : Instr) (s : State) : Option Byte := (answer c s).map fun bytes => bytes.getD 0 0

/-- The result byte of the safety line's reply. -/
def safetyResult (c : Instr) (s : State) : Option Byte :=
  (reads c s fun t => t.safety.reply.map fun frame => frame.getD 5 0).join

/-- A part right after reset. -/
def fresh : State := State.reset

/-- The state after commands, each line's reply sent after each of them. -/
def ran (s : State) (commands : List Instr) : State :=
  commands.foldl (fun s c => after [c, .replySent .control, .replySent .safety] s) s

/-- What sound lists are, area by area. -/
def listsChecked (s : State) : Bool :=
  decide (∀ i, s.isEntry i = true ↔ ((s.input i).gate = .opened ∨ (s.input i).gate = .holding))
    && decide (∀ i, s.isEntry i = true → (s.input i).settings.mode = .gated)
    && allAreas.all fun k =>
      decide (∀ i ∈ listed s k, s.inputArea i = some k) && decide (listed s k).Nodup
        && decide (s.inUse k = true → (s.area k).list.length ≤ (s.area k).settings.maxOpen)
        && decide (∀ e ∈ (s.area k).list, e.retained = true → (s.area k).list.length = 1 ∧ s.holds e = true)

theorem lists_sound {s : State} (h : listsChecked s = true) : ListsSound s := by
  simp only [listsChecked, Bool.and_eq_true, List.all_eq_true, decide_eq_true_eq] at h
  have all (k : Area) : k ∈ allAreas := by cases k <;> decide
  exact ⟨h.1.1, h.1.2, fun k => (h.2 k (all k)).1.1.1, fun k => (h.2 k (all k)).1.1.2, fun k => (h.2 k (all k)).1.2,
    fun k => (h.2 k (all k)).2⟩

/-! ### WellFormed refuses an ill-formed command at each of its checks -/

theorem test_wellFormed_refuses_long_body : (Instr.stat 0 (List.replicate 511 0)).wellFormed = false := by
  decide +kernel
theorem test_wellFormed_takes_longest_body : (Instr.stat 0 (List.replicate 510 0)).wellFormed = true := by
  decide +kernel
theorem test_wellFormed_refuses_accepted_kind :
    (Instr.unknownKind .control 0x35 0 []).wellFormed = false
      ∧ (Instr.unknownKind .safety 0x35 0 []).wellFormed = true := by decide
theorem test_wellFormed_refuses_short_frame_of_audio :
    (Instr.inputFrame 0 (List.replicate 47 0)).wellFormed = false
      ∧ (Instr.planFrameStep ⟨List.replicate 49 0, List.replicate 24 (List.replicate 48 0)⟩).wellFormed = false
      ∧ (Instr.planFrameStep ⟨List.replicate 48 0, List.replicate 24 (List.replicate 47 0)⟩).wellFormed = false := by
  decide +kernel
theorem test_wellFormed_refuses_a_plan_step_with_an_input_missing :
    (Instr.planFrameStep ⟨List.replicate 48 0, List.replicate 23 (List.replicate 48 0)⟩).wellFormed = false
      ∧ (Instr.planFrameStep ⟨List.replicate 48 0, List.replicate 24 (List.replicate 48 0)⟩).wellFormed = true := by
  decide +kernel
theorem test_wellFormed_refuses_sample_beyond_full_scale :
    (Instr.inputFrame 0 ((2 ^ 31 + 1) :: List.replicate 47 0)).wellFormed = false
      ∧ (Instr.inputFrame 0 ((2 ^ 31) :: List.replicate 47 0)).wellFormed = true := by decide
theorem test_wellFormed_refuses_good_frame_as_failed :
    (Instr.checkFailed .control ((frameOf 0x35 7 []).drop 1)).wellFormed = false := by decide +kernel
theorem test_wellFormed_refuses_unfinished_frame_as_failed :
    (Instr.checkFailed .control [2, 0, 0x35]).wellFormed = false := by decide +kernel
theorem test_wellFormed_takes_failing_frame :
    (Instr.checkFailed .control [2, 0, 0x35, 7, 0, 0]).wellFormed = true
      ∧ (Instr.checkFailed .control [1, 0]).wellFormed = true := by decide +kernel
theorem test_wellFormed_refuses_finished_frame_as_start :
    (Instr.startByte .control [2, 0, 0x35, 7, 0, 0]).wellFormed = false
      ∧ (Instr.startByte .control [2, 0, 0x35, 7, 0]).wellFormed = true := by decide +kernel

/-! ### Numbers worked in the spec -/

/-- R154: the check of the bytes 31h to 39h is 29B1h. -/
theorem test_crc_check_value : crc16 [0x31, 0x32, 0x33, 0x34, 0x35, 0x36, 0x37, 0x38, 0x39] = 0x29B1#16 := by
  decide +kernel

/-- R3: durations of time codes. -/
theorem test_time_codes : [0, 1, 15, 16, 22, 25, 31].map timeCodeMs = [0, 8, 120, 1, 127, 1023, 65535] := by decide

/-- R1: the indexes of I1 to Z1, I1 to Z16, I2 to Z1 and I24 to Z16. -/
theorem test_crosspoint_indexes :
    [crosspointOf 0 0, crosspointOf 0 15, crosspointOf 1 0, crosspointOf 23 15].map Fin.val = [0, 15, 16, 383] := by
  decide

/-- R14: the sums 6 and 7, and the diagonal of the full coordinate frame. -/
theorem test_rounded_roots : [6, 7, 3221028867].map roundedRoot = [2, 3, 56754] := by decide +kernel

/-- R15: halves away from zero, and the ends of the range of Tu. -/
theorem test_speed_of_sound :
    [125, -25, -200, 450].map speedOfSound = [33889, 32979, 31919, 35858] := by decide

/-- R46: a depth below -600 is taken as -1000 and one above -60 as -60; a margin of 1 to 29 as 30. -/
theorem test_depth_and_margin_limits :
    [-601, -600, -60, -59].map limitDepth = [-1000, -600, -60, -60]
      ∧ [0, 1, 29, 201].map limitMargin = [0, 30, 30, 200] := by decide

/-- R71: a send above 0 is taken as 0, and one below -600 as -1000. -/
theorem test_send_limits : [1, 0, -600, -601].map limitSend = [0, 0, -600, -1000] := by decide

/-- R2, the floor convention: up from the floor to -600, and below -600 to the floor. -/
theorem test_floor_convention :
    rampGain 2 (-1000) 0 = -600 ∧ rampGain 2 (-599) (-1000) = -1000 ∧ rampGain 2 (-598) (-1000) = -600
      ∧ rampGain 2 (-1) 0 = 0 := by decide

/-- R108: a change of both lines is illegal; R107: 00 to 10 is clockwise. -/
theorem test_quadrature :
    decodePair (false, false) (true, true) = .illegal ∧ decodePair (false, false) (true, false) = .edge 1 := by
  decide

/-- R167: an ARMED part with its latch set and nothing else to report sends 90h. -/
theorem test_status_byte :
    State.statusByte { fresh with queue := [], latch := true, alarm := { fresh.alarm with state := .armed } }
      = 0x90 := by decide +kernel

/-- Table 10-1: STEN's frame with tag 7, its check computed by R154 apart. -/
theorem test_frame_layout :
    (frameOf 0x35 7 []).take 5 = [0xA5, 2, 0, 0x35, 7] ∧ (frameOf 0x35 7 []).length = 7 := by decide +kernel

/-- Table 9-2. -/
theorem test_result_codes :
    [Result.done, .clamped, .started, .busy, .order, .latchClear, .alert, .badTarget, .badValue].map resultCode
      = [0, 1, 2, 0x10, 0x15, 0x16, 0x17, 0x20, 0x23] := by decide

/-- No row of the table gives bits: no word spells a command. -/
theorem test_no_word_spells_a_command : decodeTableWord 16 0 = none ∧ fresh.withFetchWord 16 0 = fresh :=
  ⟨rfl, rfl⟩

/-! ### One step of each command -/

/-- STAT is answered DONE with the 14 bytes of Table 10-10. -/
theorem test_stat : (answer (.stat 7 []) fresh).map (fun d => (d.getD 0 1, d.length)) = some (0, 16) := by
  decide +kernel

/-- R135, R161: the first NOTF after start-up returns STARTUP with value -1, and leaves nothing waiting. -/
theorem test_notf_returns_startup :
    answer (.notf 7 []) fresh = some ([0, 0, 1, 0, 0, 12] ++ [0, 0, 0, 0, 0, 0] ++ [0xFF, 0xFF, 0xFF, 0xFF]) := by
  decide +kernel

/-- R162: SUBS answers with the set in force; a code outside 1..13 is refused. -/
theorem test_subs : answer (.subs 7 [13, 3]) fresh = some [0, 1, 3, 13] ∧ result (.subs 7 [14]) fresh = some 0x23 := by
  decide +kernel

/-- An INSET body: the input, its mode, trim 0, station, area, priority, offset 90, debounce, hold code, fade codes
1 and 24, last-mic eligible. -/
def insetBody (input mode station area priority debounce hold : Byte) : List Byte :=
  [input, mode, 0, 0, station, area, priority, 90, 0, debounce, hold, 1, 24, 1]

/-- R24, R157: a priority of 7 is taken as 3. -/
theorem test_inset_clamps_priority :
    reads (.inset 7 (insetBody 1 2 0 1 7 1 25)) fresh (fun t => (t.input 0).settings.priority) = some 3
      ∧ result (.inset 7 (insetBody 1 2 0 1 7 1 25)) fresh = some 1 := by decide +kernel

/-- R157, step 2 before step 3: a wrong input is BAD-TARGET although its mode is no code. -/
theorem test_inset_target_before_value :
    result (.inset 7 (insetBody 25 3 0 1 0 1 25)) fresh = some 0x20
      ∧ result (.inset 7 (insetBody 24 3 0 1 0 1 25)) fresh = some 0x23 := by decide +kernel

/-- R26: INGET clears the reversal count and reports it as it stood. -/
theorem test_inget :
    reads (.inget 7 [1]) (fresh.setInput 0 { fresh.input 0 with reversals := 9 }) (fun t => (t.input 0).reversals)
        = some 0
      ∧ (answer (.inget 7 [1]) (fresh.setInput 0 { fresh.input 0 with reversals := 9 })).map (fun d => d.getD 32 0)
        = some 9 := by decide +kernel

/-- R73: the trim default is taken within the limits just taken. -/
theorem test_znset_limits_the_default :
    reads (.znset 7 ([14, 3] ++ word16 (-20) ++ word16 50 ++ word16 (-100) ++ word16 40)) fresh
      (fun t => (t.zone 13).scene) = some ⟨some .c, -20, 40, -100, 40⟩ := by decide +kernel

theorem test_znget : (answer (.znget 7 [16]) fresh).map List.length = some 38 := by decide +kernel

/-- A part with the geometry of Table 1-6: station S3 and zone Z5, with I7 at S3. -/
def placed : State :=
  ran fresh
    [.stset 0 ([3, 1] ++ word16 1200 ++ word16 900 ++ word16 150 ++ [0]),
     .zngeo 0 ([5] ++ word16 3000 ++ word16 400 ++ word16 450 ++ word16 3400 ++ word16 900 ++ word16 120
       ++ word16 576 ++ word16 0 ++ [22, 2, 0]),
     .inset 0 (insetBody 7 1 3 1 2 3 25)]

set_option maxRecDepth 20000 in
/-- Section 1.7: at Tu 125 crosspoint 100 has the target 2672, and at Tu 180 the target 2652. -/
theorem test_clim_worked_targets :
    reads (.clim 7 ([1] ++ word16 125 ++ [0, 0, 0])) placed (fun t => (t.crosspoint 100).targetDelay) = some 2672
      ∧ reads (.clim 7 ([1] ++ word16 180 ++ [0, 0, 0])) placed (fun t => (t.crosspoint 100).targetDelay)
        = some 2652 := by decide +kernel

/-- `placed` with the active gain of crosspoint 100 at 0: it is audible. -/
def heardAt100 : State := placed.setCrosspoint 100 { placed.crosspoint 100 with activeGain := 0 }

set_option maxRecDepth 20000 in
/-- R81, R82: a new target starts a move of 127 ms at an audible crosspoint, is taken at once by an inaudible one, and
waits at a MOVING one; the target moved to takes the pending delay away again. -/
theorem test_targets_arrive_at_a_crosspoint :
    reads (.clim 7 ([1] ++ word16 180 ++ [0, 0, 0])) heardAt100
        (fun t => ((t.crosspoint 100).move, (t.crosspoint 100).activeDelay == (heardAt100.crosspoint 100).activeDelay))
        = some (some ⟨2652, 0, 127⟩, true)
      ∧ reads (.clim 7 ([1] ++ word16 180 ++ [0, 0, 0])) placed
        (fun t => ((t.crosspoint 100).move, (t.crosspoint 100).activeDelay)) = some (none, 2652)
      ∧ reads (.clim 7 ([1] ++ word16 125 ++ [0, 0, 0])) (ran heardAt100 [.clim 7 ([1] ++ word16 180 ++ [0, 0, 0])])
        (fun t => ((t.crosspoint 100).move, (t.crosspoint 100).pendingDelay)) = some (some ⟨2652, 0, 127⟩, some 2672)
      ∧ reads (.clim 7 ([1] ++ word16 180 ++ [0, 0, 0]))
        (ran heardAt100 [.clim 7 ([1] ++ word16 180 ++ [0, 0, 0]), .clim 7 ([1] ++ word16 125 ++ [0, 0, 0])])
        (fun t => (t.crosspoint 100).pendingDelay) = some none := by decide +kernel

/-- R174: a parts byte with bit 2 set is no code. -/
theorem test_clim_refuses_a_part : result (.clim 7 [4, 0, 0, 0, 0, 0]) fresh = some 0x23 := by decide +kernel

/-- R5: a coordinate above 32767 is taken as 32767. -/
theorem test_stset_clamps :
    reads (.stset 7 ([32, 0] ++ [0xFF, 0xFF] ++ [0, 0, 0, 0] ++ [1, 0x41])) fresh (fun t => t.station 31)
      = some ⟨false, [0x41], ⟨32767, 0, 0⟩⟩ := by decide +kernel

/-- R174: a ZNGEO whose label is one byte short is refused with BAD-LENGTH. -/
theorem test_zngeo_label_length :
    result (.zngeo 7 ([16] ++ List.replicate 18 0 ++ [2, 0x41])) fresh = some 0x21 := by decide +kernel

/-- R18, R20: the recompute of a far zone raises DELAY-CLAMPED for I7's crosspoint alone. -/
theorem test_zngeo_raises_delay_clamped :
    reads (.zngeo 7 ([5] ++ List.replicate 12 0x7F ++ word16 576 ++ word16 0 ++ [22, 2, 0])) { placed with queue := [] }
      (fun t => t.queue.map fun n => (n.kind, n.subject)) = some [(.delayClamped, 100)] := by decide +kernel

theorem test_stget : (answer (.stget 7 [3]) placed).map List.length = some 14 := by decide +kernel

/-- R70: a run of sends that would leave the zones is refused; one that ends at Z16 is taken. -/
theorem test_send_run :
    result (.send 7 ([1, 16] ++ word16 0 ++ word16 0)) fresh = some 0x20
      ∧ reads (.send 7 ([2, 15] ++ word16 5 ++ word16 (-60))) fresh
          (fun t => ((t.crosspoint 30).send, (t.crosspoint 31).send, (t.crosspoint 32).send))
        = some (0, -60, -1000) := by decide +kernel

/-- R92: a read of 6 from 380 wraps; a count of 25 is taken as 24. -/
theorem test_xprd :
    (answer (.xprd 7 (word16 380 ++ [6])) fresh).map List.length = some (3 + 21 * 6)
      ∧ result (.xprd 7 (word16 380 ++ [25])) fresh = some 1 ∧ result (.xprd 7 (word16 384 ++ [1])) fresh = some 0x20 := by
  decide +kernel

/-- R87: a SNAP of Z5 brings crosspoint 100 to its targets. -/
theorem test_snap :
    reads (.snap 7 [5]) (placed.setCrosspoint 100
        { placed.crosspoint 100 with activeDelay := 9, move := some ⟨8, 1, 2⟩, targetDelay := 8, targetGain := -30 })
      (fun t => ((t.crosspoint 100).activeDelay, (t.crosspoint 100).move, (t.crosspoint 100).activeGain))
      = some (8, none, -30) := by decide +kernel

theorem test_arset_limits :
    reads (.arset 7 ([1, 9, 1] ++ word16 (-700) ++ word16 5 ++ [2])) fresh (fun t => (t.area .a).settings)
      = some ⟨8, true, -1000, 30, .track⟩ := by decide +kernel

theorem test_olrd : (answer (.olrd 7 [1]) fresh).map List.length = some 16
    ∧ result (.olrd 7 [0]) fresh = some 0x20 := by decide +kernel

/-- R95: an area is not joined into itself; C joins A. -/
theorem test_join : result (.join 7 [3, 3]) fresh = some 0x15
    ∧ reads (.join 7 [3, 1]) fresh (fun t => (t.area .c).joinedInto) = some (some .a) := by decide +kernel

theorem test_splt : result (.splt 7 [3]) fresh = some 0x15
    ∧ reads (.splt 7 [3]) (ran fresh [.join 0 [3, 1]]) (fun t => (t.area .c).joinedInto) = some none := by
  decide +kernel

theorem test_paus_and_rsum :
    reads (.paus 7 [2]) fresh (fun t => (t.area .b).paused) = some true
      ∧ reads (.rsum 7 [2]) (ran fresh [.paus 0 [2]]) (fun t => (t.area .b).paused) = some false := by decide +kernel

/-- R114: edges per detent of 3 are no code; a filter count of 20 is taken as 15. -/
theorem test_pnset : result (.pnset 7 ([3, 14, 1, 3, 5, 4] ++ word16 30)) fresh = some 0x23
    ∧ reads (.pnset 7 ([3, 14, 1, 4, 5, 20] ++ word16 30)) fresh (fun t => (t.panel 2).building.filterCount)
      = some 15 := by decide +kernel

/-- R116: PNGET clears the fault flag. -/
theorem test_pnget :
    reads (.pnget 7 [8]) (fresh.setPanel 7 { fresh.panel 7 with fault := true }) (fun t => (t.panel 7).fault)
      = some false := by decide +kernel

/-- R123: without the latch a store request is refused with LATCH-CLEAR; with it, it is STARTED and spends it. -/
theorem test_scst : result (.scst 7 [63, 0]) fresh = some 0x16
    ∧ reads (.scst 7 [63, 0]) { fresh with latch := true } (fun t => (t.latch, t.slot 63)) = some (false, .incomplete) := by
  decide +kernel

theorem test_scrc_of_empty_slot : result (.scrc 7 [0, 0, 0]) fresh = some 0x13 := by decide +kernel
theorem test_scer : result (.scer 7 [64]) { fresh with latch := true } = some 0x20
    ∧ result (.scer 7 [0]) { fresh with latch := true } = some 2 := by decide +kernel
/-- R134: slots wrap from 63 to 0: five bytes of header, the start and count, and four for each unlabelled slot. -/
theorem test_scls : (answer (.scls 7 [63, 2]) fresh).map List.length = some (2 + 7 + 8) := by decide +kernel
theorem test_bldw : result (.bldw 7 [64]) { fresh with latch := true } = some 0x23
    ∧ result (.bldw 7 [255]) { fresh with latch := true } = some 2 := by decide +kernel
theorem test_sten_and_stdi : reads (.sten 7 []) fresh (fun t => t.latch) = some true
    ∧ reads (.stdi 7 []) { fresh with latch := true } (fun t => t.latch) = some false := by decide +kernel
/-- R128: a PROT is LOCKED by the lock bit while the key switch is LOCKED (low). -/
theorem test_prot_locked :
    result (.prot 7 [0, 0]) { fresh with latch := true, guard := ⟨.unprotected, true⟩,
                                         key := ⟨some false, 0, some false⟩ } = some 0x11 := by decide +kernel

/-- An ALCF body: all levels 0, a time code, an action, fallback NONE and auto-arm off. -/
def alcfBody (code action : Byte) : List Byte := List.replicate 32 0 ++ [code, action, 0xFF, 0]

theorem test_alcf : result (.alcf 7 (alcfBody 32 0)) { fresh with latch := true } = some 1
    ∧ result (.alcf 7 (alcfBody 31 3)) { fresh with latch := true } = some 0x23 := by decide +kernel
theorem test_alrd : (answer (.alrd 7 []) fresh).map List.length = some 46 := by decide +kernel

/-- A PRIMED part, and an ARMED one with 5 ms left and phase 1 expected. -/
def primed : State := { fresh with alarm := { fresh.alarm with state := .primed } }
def armed : State := { fresh with alarm := { fresh.alarm with state := .armed, timer := some ⟨5, 1⟩ } }

/-- Table 8-3. -/
theorem test_arm1_by_state : [fresh, primed, armed].map (result (.arm1 7 [])) = [some 0, some 0, some 0x11] := by
  decide +kernel
theorem test_arm2_by_state : [fresh, primed, armed].map (result (.arm2 7 [1])) = [some 0x15, some 0, some 0x11]
    ∧ reads (.arm2 7 [1]) primed (fun t => t.alarm.timer) = some (some ⟨32767, 1⟩) := by decide +kernel
/-- R142: with a supervision time of 0 the expiry comes in the event of the arming. -/
theorem test_arm2_without_supervision_time :
    reads (.arm2 7 [1]) { primed with queue := [], alarm := { primed.alarm with
        settings := { primed.alarm.settings with code := 0 } } }
      (fun t => (t.alarm.state, t.queue.map fun n => (n.kind, n.value)))
      = some (.fault, [(.alarmState, 2), (.alarmState, 3), (.supervisionFault, 257)]) := by decide +kernel
theorem test_rsta_during_alarm : result (.rsta 7 []) { fresh with alarm := { fresh.alarm with cause := .alarm } }
    = some 0x17 := by decide +kernel
theorem test_alon_and_alof : reads (.alon 7 []) fresh (fun t => (t.alarm.cause, (t.zone 15).selector))
      = some (.alarm, .alarmSource)
    ∧ safetyResult (.alof 7 []) fresh = some 0x15 := by decide +kernel
/-- R145: an out-of-sequence SUPV raises SUPERVISION-FAULT 512 after ALARM-STATE 3. -/
theorem test_supv_out_of_sequence :
    reads (.supv 7 [2]) armed (fun t => t.queue.map fun n => (n.kind, n.value))
      = some [(.startup, -1), (.alarmState, 3), (.supervisionFault, 512)] := by decide +kernel
theorem test_supv_in_sequence : reads (.supv 7 [1]) armed (fun t => t.alarm.timer) = some (some ⟨5, 2⟩) := by
  decide +kernel

theorem test_unknown_kind : result (.unknownKind .control 0x40 7 []) fresh = some 0x22 := by decide +kernel
theorem test_check_failed_sends_nothing :
    reads (.checkFailed .control [2, 0, 0x35, 7, 0, 0]) fresh (fun t => t.control) = some LineState.idle := by
  decide +kernel
/-- R152: an A5h that is the second check byte of a good frame completes it, also where it comes as a start byte
of its own. The check of STEN with tag C1h is 5AA5h, computed by R154 apart. -/
theorem test_start_byte_completes_a_frame :
    (frameOf 0x35 0xC1 []).drop 5 = [0x5A, 0xA5]
      ∧ (reads (.startByte .control [2, 0, 0x35, 0xC1, 0x5A]) fresh (fun t => t.latch) = some false
      ∧ result (.startByte .control []) (after [.startByte .control [2, 0, 0x35, 0xC1, 0x5A]] fresh) = some 0
      ∧ reads (.startByte .control []) (after [.startByte .control [2, 0, 0x35, 0xC1, 0x5A]] fresh)
          (fun t => t.latch) = some true) := by decide +kernel
/-- R152: amid another frame a whole good frame is data: STEN is not taken. -/
theorem test_frame_amid_another_is_data :
    reads (.sten 7 []) (after [.startByte .control [20, 0]] fresh) (fun t => (t.latch, t.control.reply))
      = some (false, none) := by decide +kernel
theorem test_frame_during_reply : reads (.frameDuringReply .control) fresh id = some fresh := by decide +kernel
/-- R152, R153: a start byte, two length bytes, then a framing error: the receiver hunts. -/
theorem test_framing_error :
    reads (.startByte .safety [4, 0]) fresh (fun t => t.safety.receiver.state) = some .body
      ∧ reads (.framingError .safety) (after [.startByte .safety [4, 0]] fresh) (fun t => t.safety.receiver.state)
        = some .hunt := by decide +kernel
theorem test_partial_frame_gap :
    reads (.partialFrameGap .safety) (after [.startByte .safety [4, 0]] fresh) (fun t => t.safety.receiver.state)
      = some .hunt := by decide +kernel
theorem test_reply_sent : reads (.replySent .control) (after [.sten 7 []] fresh) (fun t => t.control.reply)
    = some none := by decide +kernel

/-- I1 of area A, GATED, priority 3, debounce 1, and a part in which it is OPEN. -/
def ready : State := ran fresh [.inset 0 (insetBody 1 2 0 1 3 1 17)]
def loud : List Int := List.replicate 48 (2 ^ 31)
def quiet : List Int := List.replicate 48 0
/-- A plan step's audio: a source, and silence yet to come at every input. -/
def soundOf (source : List Int) : AudioFrame := ⟨source, List.replicate 24 quiet⟩
def opened : State := after [.inputFrame 0 loud] ready

/-- R39: OPEN at -300 on the way to 0, I1 is sent back to -1000 by a PAUS, and by an INSET to OFF; both count. A
resume before the pause, at the same side, does not. -/
theorem test_reversals_count :
    [.paus 7 [1], .inset 7 (insetBody 1 0 0 1 3 1 17), .rsum 7 [1]].map
        (reads · (opened.setInput 0 { opened.input 0 with gain := -300, reversals := 254 })
          fun t => ((t.input 0).target, (t.input 0).reversals))
      = [some (-1000, 255), some (-1000, 255), some (0, 254)] := by decide +kernel

/-- R27: full scale is level 0 and silence -1200. -/
theorem test_frame_levels : [loud, quiet].map (frameLevel 0) = [0, -1200] := by decide +kernel
/-- R27: only the level is rounded. At a trim of -200 td full scale has the mean 0.01, and so the level -200; at
-1 td the level -1; and a trim upward is held at full scale. -/
theorem test_frame_levels_are_exact : [-200, -1, 200].map (frameLevel · loud) = [-200, -1, 0] := by decide +kernel
/-- R31, R44: with debounce 1 one loud frame opens the gate and enters the list. -/
theorem test_input_frame_opens :
    reads (.inputFrame 0 loud) ready (fun t => ((t.input 0).gate, (t.area .a).list.map fun e => (e.input, e.priority)))
      = some (.opened, [(0, 3)]) := by decide +kernel
/-- R34: a quiet frame of an OPEN input holds, with the 3 ms of time code 17. -/
theorem test_input_frame_holds :
    reads (.inputFrame 0 quiet) opened (fun t => ((t.input 0).gate, (t.area .a).list.map fun e => e.hold))
      = some (.holding, [3]) := by decide +kernel
/-- R54: one hold tick counts the hold down, and a second in the same frame does not (log 7). -/
theorem test_hold_tick :
    reads (.holdTick .a) (after [.inputFrame 0 quiet] opened) (fun t => (t.area .a).list.map fun e => e.hold)
      = some [2]
    ∧ reads (.holdTick .a) (after [.inputFrame 0 quiet, .holdTick .a] opened)
        (fun t => (t.area .a).list.map fun e => e.hold) = some [2] := by decide +kernel
/-- I1 of area C, HOLDING there with 3 ms. -/
def heldInC : State :=
  after [.inputFrame 0 loud, .inputFrame 0 quiet] (ran fresh [.inset 0 (insetBody 1 2 0 3 3 1 17)])
/-- R102: an entry that moves away and back in one frame keeps its hold from the tick of its list where the list that
it leaves took its own, be it the first move or the second, and else takes that tick. -/
theorem test_moved_entries_take_one_tick :
    [[Instr.holdTick .a, .join 0 [3, 1], .splt 0 [3]], [.holdTick .c, .join 0 [3, 1], .splt 0 [3]],
        [.join 0 [3, 1], .splt 0 [3]]].map
        (fun commands => reads (.holdTick .c) (ran heldInC commands) fun t => (t.area .c).list.map fun e => e.hold)
      = [some [3], some [2], some [2]] := by decide +kernel
/-- R55, R56: the last microphone of an area with last-mic hold is retained. -/
theorem test_hold_expiry_retains :
    reads (.holdExpiry 0) ((after [.inputFrame 0 quiet] opened).updateEntry .a 0 fun e => { e with hold := 0 })
      (fun t => (t.area .a).list.map fun e => e.retained) = some [true] := by decide +kernel

/-- R78: up from the floor a gain enters at -600. -/
theorem test_plan_frame_step :
    reads (.planFrameStep (soundOf quiet)) (fresh.setCrosspoint 5 { fresh.crosspoint 5 with targetGain := 0 })
      (fun t => (t.crosspoint 5).activeGain) = some (-600) := by decide +kernel
/-- R84: a move of length 1 ends at its first step. -/
theorem test_plan_frame_step_ends_a_move :
    reads (.planFrameStep (soundOf quiet))
      (fresh.setCrosspoint 5 { fresh.crosspoint 5 with targetDelay := 600, move := some ⟨600, 0, 1⟩ })
      (fun t => ((t.crosspoint 5).activeDelay, (t.crosspoint 5).move)) = some (600, none) := by decide +kernel
theorem test_move_end :
    reads (.moveEnd 5) (fresh.setCrosspoint 5 { fresh.crosspoint 5 with targetDelay := 600, move := some ⟨600, 1, 1⟩ })
      (fun t => ((t.crosspoint 5).activeDelay, (t.crosspoint 5).move)) = some (600, none) := by decide +kernel

/-- R84: the pending delay of an inaudible crosspoint is taken up at once, and that of an audible one by a move. -/
theorem test_move_end_takes_up_the_pending_delay :
    [(-1000 : Int), 0].map (fun activeGain =>
        reads (.moveEnd 5) (fresh.setCrosspoint 5 { fresh.crosspoint 5 with
            activeGain, targetDelay := 599, move := some ⟨600, 1, 1⟩, pendingDelay := some 599 })
          fun t => ((t.crosspoint 5).activeDelay, (t.crosspoint 5).move, (t.crosspoint 5).pendingDelay))
      = [some (599, none, none), some (600, some ⟨599, 0, 127⟩, none)] := by decide +kernel

/-- R131: the completion of a PROT puts its guard in force and raises STORE-DONE for 66 with code 5. -/
theorem test_store_completion :
    reads .storeCompletion { fresh with queue := [], operation := some (.prot ⟨.half, true⟩) }
      (fun t => (t.guard, t.operation, t.queue.map fun n => (n.subject, n.value)))
      = some (⟨.half, true⟩, none, [(66, 5)]) := by decide +kernel
/-- R106: the fourth equal reading is accepted with a filter count of 4. -/
theorem test_panel_sample :
    reads (.panelSample 2 true true true)
      (after [.panelSample 2 true true true, .panelSample 2 true true true, .panelSample 2 true true true] fresh)
      (fun t => (t.panel 2).reference) = some (some (true, true)) := by decide +kernel
/-- R117: a change accepted to low is LOCKED, KEY-SWITCH 1. -/
theorem test_key_switch_sample :
    reads (.keySwitchSample false) { fresh with queue := [], key := ⟨some true, 7, some false⟩ }
      (fun t => t.queue.map fun n => (n.kind, n.value)) = some [(.keySwitch, 1)] := by decide +kernel
theorem test_supervision_tick : reads .supervisionTick armed (fun t => t.alarm.timer) = some (some ⟨4, 1⟩) := by
  decide +kernel
/-- R145: an expiry under REPORT raises 1 × 256 + 1. -/
theorem test_supervision_expiry :
    reads .supervisionExpiry { armed with queue := [], alarm := { armed.alarm with timer := some ⟨0, 1⟩ } }
      (fun t => t.queue.map fun n => (n.kind, n.value)) = some [(.alarmState, 3), (.supervisionFault, 257)] := by
  decide +kernel
set_option maxRecDepth 20000 in
theorem test_power_on : reads .powerOn { fresh with latch := true } (fun t => t.latch) = some false := by decide +kernel
set_option maxRecDepth 20000 in
theorem test_restart_waits_for_its_reply :
    reads .restart (after [.rsta 7 []] { fresh with latch := true }) (fun t => t.latch) = some true
      ∧ reads .restart (after [.rsta 7 [], .replySent .control] { fresh with latch := true }) (fun t => t.latch)
        = some false := by decide +kernel
theorem test_power_loss : reads .powerLoss fresh (fun t => (t.powered, decide (t.store = fresh.store)))
    = some (false, true) := by decide +kernel
theorem test_frame_boundary_wraps : reads .frameBoundary { fresh with stamp := 0xFFFFFFFF } (fun t => t.stamp)
    = some 0 := by decide +kernel

/-! ### Witnesses: for each statement with hypotheses, states and operands that meet them, clause by clause -/

/-- A part with a reply pending on both lines. -/
def busy : State := { fresh with control := ⟨Receiver.hunting, some []⟩, safety := ⟨Receiver.hunting, some []⟩ }

/-- A part that collects frames on both lines. -/
def collecting : State := { fresh with control := ⟨Receiver.started, none⟩, safety := ⟨Receiver.started, none⟩ }

/-- A part in its eighth frame with a command waiting. -/
def waiting : State := { fresh with stamp := 7, queue := [], pending := [.sten 7 []] }

theorem fresh_ready : Ready fresh .control ∧ Ready fresh .safety := ⟨⟨⟨rfl, rfl⟩, rfl⟩, ⟨rfl, rfl⟩, rfl⟩

theorem waiting_steps : ∃ t, step waiting = .next t := ⟨_, rfl⟩

theorem witness_StepRunsTheFrontCommand : waiting.pending = .sten 7 [] :: [] := rfl

theorem witness_GoodFramesAreReceivedWhole : (List.replicate 510 (0 : Byte)).length ≤ 510 := by decide +kernel

theorem witness_RequestsAreAnsweredOneAtATime :
    requestOf (.stat 7 []) = some (.control, 0x01, 7, []) ∧ requestOf (.supv 7 [1]) = some (.safety, 0x52, 7, [1])
      ∧ ((busy.line .control).reply ≠ none ∧ (busy.line .safety).reply ≠ none)
      ∧ (Ready fresh .control ∧ Ready fresh .safety) :=
  ⟨rfl, rfl, by decide, fresh_ready⟩

theorem witness_MalformedRequestsAreRefused :
    (acceptedKind .control 0x50 = false ∧ acceptedKind .safety 0x01 = false ∧ Ready fresh .control
        ∧ Ready fresh .safety)
      ∧ (acceptedKind .control 0x08 = true ∧ bodyFits 0x08 [] = false)
      ∧ (bodyFits 0x08 (insetBody 25 2 0 1 0 1 25) = true ∧ targetInRange 0x08 (insetBody 25 2 0 1 0 1 25) = false)
      ∧ (bodyFits 0x08 (insetBody 24 3 0 1 0 1 25) = true ∧ targetInRange 0x08 (insetBody 24 3 0 1 0 1 25) = true
        ∧ valuesInSet 0x08 (insetBody 24 3 0 1 0 1 25) = false) := by
  unfold Ready Listening; decide +kernel

theorem witness_MalformedRequestsAreRefused_request :
    requestOf (.inset 7 []) = some (.control, 0x08, 7, [])
      ∧ ∀ k, Instr.inset 7 [] ≠ .unknownKind .control k 7 [] := ⟨rfl, by simp⟩

set_option maxRecDepth 20000 in
theorem witness_LineEventsTouchTheirLineAlone :
    (Listening collecting .control ∧ (collecting.line .control).receiver.state ≠ .hunt)
      ∧ (Ready fresh .safety ∧ (fresh.line .safety).receiver.state = .hunt)
      ∧ (completesGood Receiver.started [] = false ∧ completesGood Receiver.started [4, 0, 0xA5] = false
        ∧ completesGood (collecting.line .control).receiver (0xA5 :: [0]) = false)
      ∧ (keptLength [2, 0, 0x35, 7, 0, 0] = 2 ∧ ([2, 0, 0x35, 7, 0, 0] : List Byte).length = 4 + 2
        ∧ goodCheck [2, 0, 0x35, 7, 0, 0] = false)
      ∧ (keptLength ([0, 2] ++ List.replicate 514 0) = 512
        ∧ (([0, 2] : List Byte) ++ List.replicate 514 0).length = 4 + 512
        ∧ goodCheck ([0, 2] ++ List.replicate 514 0) = false)
      ∧ (keptLength [1, 0] < 2 ∧ 2 ≤ ([1, 0] : List Byte).length
        ∧ completesGood Receiver.hunting (([1, 0] : List Byte).drop 2) = false)
      ∧ (512 < keptLength [1, 2, 0xA5] ∧ 2 ≤ ([1, 2, 0xA5] : List Byte).length
        ∧ completesGood Receiver.hunting (([1, 2, 0xA5] : List Byte).drop 2) = false) ∧ fresh.powered = true := by
  unfold Ready Listening; decide +kernel

/-- The frame of STEN with tag C1h, at its first byte and at its last. -/
theorem witness_LineEventsTouchTheirLineAlone_frame :
    requestOf (.sten 0xC1 []) = some (.control, 0x35, 0xC1, []) ∧ (Instr.sten 0xC1 []).wellFormed = true
      ∧ frameOf 0x35 0xC1 [] = [0xA5, 2, 0, 0x35, 0xC1, 0x5A] ++ 0xA5 :: []
      ∧ frameOf 0x35 0xC1 [] = [] ++ 0xA5 :: [2, 0, 0x35, 0xC1, 0x5A, 0xA5]
      ∧ (∀ pre, ({ fresh with control := ⟨Receiver.hunting.bytes pre, none⟩ } : State).line .control
          = ⟨Receiver.hunting.bytes pre, none⟩) ∧ fresh.powered = true :=
  ⟨rfl, by decide, by decide +kernel, by decide +kernel, fun _ => rfl, rfl⟩

theorem witness_ReadingRequestsReportTheState :
    Ready fresh .control ∧ (∀ count ∈ [0, 1, 16, 17, 24, 25, 255], count ≤ 255) := by unfold Ready Listening; decide

theorem witness_NotfReturnsTheOldestNotices : Ready fresh .control := fresh_ready.1

theorem witness_SubsReplacesTheSubscriptions :
    Ready fresh .control ∧ ([1, 13] ++ List.replicate 11 5 : List Byte).length ≤ 13
      ∧ ∀ b ∈ ([1, 13] ++ List.replicate 11 5 : List Byte), 1 ≤ b.toNat ∧ b.toNat ≤ 13 := by
  unfold Ready Listening; decide +kernel

/-- A part with a PROT in flight. -/
def storing : State := { fresh with operation := some (.prot Guard.factory), store := fresh.store.begin (.prot Guard.factory) }

/-- A part under an override of cause ALARM. -/
def overridden : State :=
  { fresh with alarm := { fresh.alarm with cause := .alarm },
               zones := Table.replicate 16 { Zone.initial with selector := .alarmSource } }

theorem witness_RestartFollowsAnAcceptedRsta :
    (Ready storing .control ∧ storing.operation ≠ none)
      ∧ (Ready overridden .control ∧ overridden.operation = none ∧ overridden.alarm.cause = .alarm)
      ∧ (Ready fresh .control ∧ fresh.operation = none ∧ fresh.alarm.cause ≠ .alarm)
      ∧ ({ fresh with restartAccepted := true }.restartAccepted = true ∧ fresh.control.reply = none)
      ∧ fresh.restartAccepted = false
      ∧ ({ busy with restartAccepted := true }.restartAccepted = true ∧ busy.control.reply ≠ none) := by
  unfold Ready Listening; decide +kernel

/-- Stores of which every record is INCOMPLETE. -/
def damagedStore : Store :=
  { Store.factory with building := .incomplete, alarm := .incomplete, guard := .incomplete }

/-- Stores whose building record names slot 63, which is VALID. -/
def sceneStore : Store :=
  { Store.factory with building := .valid { Building.factory with startupScene := some 63 },
                       slots := Store.factory.slots.set 63 (.valid Scene.factory) }

theorem witness_PowerOnStartsThePartFromItsStores :
    (fresh.store.building = .valid Building.factory ∧ fresh.store.guard = .valid Guard.factory
        ∧ fresh.store.alarm = .valid AlarmSettings.factory ∧ fresh.store = Store.factory)
      ∧ (damagedStore.building = .incomplete ∧ damagedStore.alarm = .incomplete ∧ damagedStore.guard = .incomplete)
      ∧ (StartsFrom sceneStore 63 Scene.factory)
      ∧ (∀ k scene, ¬ StartsFrom Store.factory k scene) ∧ ∀ k scene, ¬ StartsFrom damagedStore k scene := by
  refine ⟨⟨rfl, rfl, rfl, rfl⟩, ⟨rfl, rfl, rfl⟩, ⟨_, rfl, rfl, ?_⟩, ?_, ?_⟩
  · simp [sceneStore]
  · rintro k scene ⟨b, h, named, -⟩; cases h; cases named
  · rintro k scene ⟨b, h, -⟩; cases h

/-- A part with stores whose RSTA has been accepted and its reply sent: its RESTART is due. -/
def restarting (store : Store) : State := { fresh with store, restartAccepted := true }

theorem witness_RestartFollowsAnAcceptedRsta_due :
    (∀ store, (restarting store).powered = true ∧ (restarting store).restartAccepted = true
        ∧ (restarting store).control.reply = none)
      ∧ StartsFrom (restarting sceneStore).store 63 Scene.factory
      ∧ ∀ k scene, ¬ StartsFrom (restarting damagedStore).store k scene := by
  refine ⟨fun _ => ⟨rfl, rfl, rfl⟩, ⟨_, rfl, rfl, ?_⟩, ?_⟩
  · simp [restarting, sceneStore]
  · rintro k scene ⟨b, h, -⟩; cases h

theorem witness_PowerLossKeepsOnlyTheStores :
    { fresh with powered := false }.powered = false ∧ Instr.sten 7 [] ≠ .powerOn ∧ Instr.sten 7 [] ≠ .powerLoss := by
  decide

theorem witness_FrameBoundariesCountTheStamp :
    fresh.powered = true ∧ (∃ t, exec (.sten 7 []) fresh = .next t) ∧ ¬ StartsOver (.sten 7 [])
      ∧ Instr.sten 7 [] ≠ .frameBoundary := ⟨rfl, ⟨_, rfl⟩, id, by decide⟩

/-- A part with a number of notices waiting. -/
def noticed (n : Nat) : State := { waiting with queue := List.replicate n ⟨.startup, 0, 0, -1⟩ }

theorem witness_NoticesWaitInOrderUntilFetched :
    (NoticeKind.startup ∈ (noticed 31).subscribed ∧ (noticed 31).queue.length < 32)
      ∧ (NoticeKind.startup ∈ (noticed 32).subscribed ∧ 32 ≤ (noticed 32).queue.length)
      ∧ NoticeKind.listChange ∉ fresh.subscribed ∧ (noticed 32).queue.length ≤ 32 := by decide +kernel

theorem witness_NoticesWaitInOrderUntilFetched_commands :
    (∃ t, exec (.sten 7 []) fresh = .next t) ∧ ¬ StartsOver (.sten 7 [])
      ∧ QueueBounded (noticed 32)
      ∧ ∃ t, step (noticed 32) = .next t :=
  ⟨⟨_, rfl⟩, id, witness_NoticesWaitInOrderUntilFetched.2.2.2, _, rfl⟩

theorem witness_DistanceIsTheRoundedRoot :
    ∀ p ∈ [(⟨32767, 32767, 32767⟩ : Point), ⟨0, 0, 0⟩], p.x ≤ 32767 ∧ p.y ≤ 32767 ∧ p.z ≤ 32767 := by decide

/-- R15: the products 757.5 and −151.5 lie halfway. -/
theorem witness_SpeedOfSoundIsRoundedAwayFromZero :
    100 * (speedOfSound 125 - 33131) - 606 * 125 = 50 ∧ 100 * (speedOfSound (-25) - 33131) - 606 * (-25) = -50 := by
  decide

/-- The part of Table 1-6 with the talker of I7 at the listening point of Z5. -/
def atListener : State := { placed with stations := placed.stations.set 2 ⟨true, [], ⟨3400, 900, 120⟩⟩ }

theorem witness_DelaySumIsTheRoundedPathDifference :
    (∀ tu ∈ [(-200 : Int), 450], -200 ≤ { placed with used := tu }.used ∧ { placed with used := tu }.used ≤ 450)
      ∧ (fresh.input (inputOf 100)).settings.station = none
      ∧ ((placed.input (inputOf 100)).settings.station = some 2 ∧ (placed.station 2).defined = true)
      ∧ ((ran placed [.inset 0 (insetBody 7 1 4 1 2 3 25)]).input (inputOf 100)).settings.station = some 3
      ∧ (placed.station 3).defined = false
      ∧ distance (placed.zone 4).geometry.speaker (placed.zone 4).geometry.listener
          < distance (placed.station 2).point (placed.zone 4).geometry.listener
      ∧ distance (atListener.station 2).point (atListener.zone 4).geometry.listener
          ≤ distance (atListener.zone 4).geometry.speaker (atListener.zone 4).geometry.listener := by
  decide +kernel

/-! The tables of `waiting`, and the invariants that it meets. -/

theorem waiting_crosspoint (x : Fin 384) : waiting.crosspoint x = Crosspoint.initial 576 := Table.get_replicate x _
theorem waiting_input (i : Fin 24) : waiting.input i = Input.initial := Table.get_replicate i _
theorem waiting_area (k : Area) : waiting.area k = AreaUnit.initial := Table.get_replicate (areaIndex k) _
theorem waiting_zone (z : Fin 16) : waiting.zone z = Zone.initial := Table.get_replicate z _
theorem waiting_slot (k : Fin 64) : waiting.slot k = .empty := Table.get_replicate k _

theorem waiting_inputArea (i : Fin 24) : waiting.inputArea i = none := by
  simp [State.inputArea, waiting_input, Input.initial, InputSettings.factory]

theorem waiting_isEntry (i : Fin 24) : waiting.isEntry i = false := by simp [State.isEntry, waiting_inputArea]

theorem waiting_holds_no_scene (scene : Scene) : ¬ HoldsScene waiting scene := by
  rintro (⟨k, h⟩ | ⟨k, h⟩)
  · rw [waiting_slot] at h; cases h
  · cases h

theorem waiting_delaySum (x : Fin 384) : waiting.delaySumOf x = 576 := by
  simp [State.delaySumOf, State.talker, waiting_input, waiting_zone, Input.initial, InputSettings.factory,
    Zone.initial, ZoneGeometry.factory, delaySum, geometricTerm]

theorem witness_PlanRecordsStaySound : PlanRecordsSound waiting ∧ ∃ t, step waiting = .next t := by
  refine ⟨⟨fun x => ?_, fun x => ?_⟩, waiting_steps⟩
  · rw [waiting_crosspoint]; exact ⟨.inl rfl, .inl rfl⟩
  · rw [waiting_crosspoint]; exact ⟨by decide, by decide, rfl, rfl⟩

theorem witness_DelayTargetsStayCurrent :
    PlanRecordsSound waiting ∧ DelayTargetsCurrent waiting ∧ ∃ t, step waiting = .next t := by
  refine ⟨witness_PlanRecordsStaySound.1, fun x => ?_, waiting_steps⟩
  rw [waiting_crosspoint, waiting_delaySum]; decide

theorem witness_DetectorsStayInRange : DetectorsInRange waiting ∧ ∃ t, step waiting = .next t := by
  refine ⟨fun i => ?_, waiting_steps⟩
  rw [waiting_input]; decide

theorem witness_ListsAndMapsStaySound :
    ListsSound waiting ∧ MapsValid waiting ∧ ∃ t, step waiting = .next t := by
  refine ⟨⟨fun i => ?_, fun i h => ?_, fun k i h => ?_, fun k => ?_, fun k _ => ?_, fun k e h => ?_⟩, ⟨?_, ?_⟩,
    waiting_steps⟩
  · simp [waiting_isEntry, waiting_input, Input.initial]
  · simp [waiting_isEntry] at h
  · simp [listed, waiting_area, AreaUnit.initial] at h
  · simp [listed, waiting_area, AreaUnit.initial]
  · simp [waiting_area, AreaUnit.initial]
  · simp [waiting_area, AreaUnit.initial] at h
  · intro x y h; simp [waiting_area, AreaUnit.initial] at h
  · intro scene h; exact absurd h (waiting_holds_no_scene scene)

theorem witness_GateTargetsAndNomStayCurrent :
    ListsSound waiting ∧ MapsValid waiting ∧ GateTargetsCurrent waiting ∧ NomCurrent waiting
      ∧ ∃ t, step waiting = .next t := by
  refine ⟨witness_ListsAndMapsStaySound.1, witness_ListsAndMapsStaySound.2.1, fun i => ?_, fun k => ?_,
    waiting_steps⟩
  · simp [State.gateTargetOf, waiting_input, Input.initial, InputSettings.factory]
  · simp [State.nomOf, waiting_area, AreaUnit.initial, nomOfLength]

theorem witness_LiveFlagsAndGainTargetsStayCurrent : PlanComposed waiting ∧ ∃ t, step waiting = .next t := by
  refine ⟨fun x => ?_, waiting_steps⟩
  rw [waiting_crosspoint]
  simp [State.liveOf, State.gainTargetOf, waiting_input, Crosspoint.initial, Input.initial, InputSettings.factory]

theorem witness_TrimsStayWithinTheirLimits : TrimsWithinLimits waiting ∧ ∃ t, step waiting = .next t := by
  refine ⟨⟨fun z => ?_, fun scene h => absurd h (waiting_holds_no_scene scene)⟩, waiting_steps⟩
  rw [waiting_zone]; unfold LimitsSound; decide

theorem witness_AlarmUnitStaysSound : AlarmSound waiting ∧ ∃ t, step waiting = .next t := by
  refine ⟨⟨by decide, fun t h => ?_, by decide, by decide, fun z => ?_, by decide, by decide⟩, waiting_steps⟩
  · cases h
  · rw [waiting_zone]; decide

/-! Witnesses of the requests. -/

/-- A station entry at the ends of what a STSET can carry. -/
def farStation : Station := ⟨true, [0x20, 0x7E], ⟨65535, 0, 32768⟩⟩

theorem witness_StsetSetsAStation :
    Ready placed .control ∧ StationSent farStation
      ∧ ((placed.input (inputOf 100)).settings.station = some 2 ∧ (placed.input (inputOf 0)).settings.station ≠ some 2)
      ∧ ((placed.station 2).defined = true ∧ (placed.station 2).point = pointTaken ⟨1200, 900, 150⟩
        ∧ StationSent ⟨true, [0x41], ⟨1200, 900, 150⟩⟩)
      ∧ (placed.station 2).point ≠ pointTaken farStation.point
      ∧ (placed.station 3).defined ≠ farStation.defined ∧ (3 : Fin 32) ≠ 2 := by
  unfold Ready Listening StationSent LabelFits PointSent Unsigned16; decide +kernel

/-- A zone geometry entry at the ends of what a ZNGEO can carry. -/
def farGeometry : ZoneGeometry := ⟨List.replicate 12 0x7E, ⟨65535, 0, 0⟩, ⟨0, 65535, 0⟩, 65535, 65535, 255, 0⟩

theorem witness_ZngeoSetsAZonesGeometry :
    Ready placed .control ∧ GeometrySent farGeometry ∧ GeometrySent (placed.zone 4).geometry
      ∧ ((placed.zone 4).geometry.speaker = pointTaken (placed.zone 4).geometry.speaker
        ∧ (placed.zone 4).geometry.listener = pointTaken (placed.zone 4).geometry.listener
        ∧ (placed.zone 4).geometry.precedence = min 1023 (placed.zone 4).geometry.precedence
        ∧ (placed.zone 4).geometry.extra = min 4095 (placed.zone 4).geometry.extra)
      ∧ (placed.zone 4).geometry.speaker ≠ pointTaken farGeometry.speaker
      ∧ (placed.zone 4).geometry.listener ≠ pointTaken farGeometry.listener
      ∧ (placed.zone 4).geometry.precedence ≠ min 1023 farGeometry.precedence
      ∧ (placed.zone 4).geometry.extra ≠ min 4095 farGeometry.extra
      ∧ zoneOf 100 = 4 ∧ zoneOf 101 ≠ 4 ∧ (3 : Fin 16) ≠ 4 := by
  unfold Ready Listening GeometrySent LabelFits PointSent Unsigned16 Unsigned8; decide +kernel

theorem witness_ClimTakesSettingsAndThenTheReport :
    Ready fresh .control ∧ (Signed16 (-32768) ∧ Signed16 32767 ∧ Unsigned8 0 ∧ Unsigned8 255)
      ∧ ((temperatureTaken 154 - fresh.used).natAbs < fresh.climateStep
        ∧ reads (.clim 7 ([1] ++ word16 154 ++ [0, 0, 0])) fresh (fun t => t.climateStep) = some fresh.climateStep)
      ∧ fresh.climateStep ≤ (temperatureTaken 155 - fresh.used).natAbs := by
  unfold Ready Listening Signed16 Unsigned8; decide +kernel

set_option maxRecDepth 20000 in
/-- The crosspoints at which a target arrives: STEADY, audible or not, in a zone with a move time or none, at their
target or not; and MOVING to a delay, which the target is or is not. -/
theorem witness_TargetArrived :
    ((heardAt100.crosspoint 100).move = none ∧ ¬ Inaudible heardAt100 100 (heardAt100.crosspoint 100)
        ∧ moveFramesAt heardAt100 100 = 127 ∧ (heardAt100.crosspoint 100).activeDelay ≠ 2652)
      ∧ Inaudible placed 100 (placed.crosspoint 100)
      ∧ moveFramesAt (heardAt100.setZone 4 { heardAt100.zone 4 with
          geometry := { (heardAt100.zone 4).geometry with moveCode := 0 } }) 100 = 0
      ∧ (heardAt100.crosspoint 100).activeDelay = min (heardAt100.delaySumOf 100) 16383
      ∧ reads (.clim 7 ([1] ++ word16 180 ++ [0, 0, 0])) heardAt100 (fun t => (t.crosspoint 100).move)
        = some (some ⟨2652, 0, 127⟩) := by
  unfold Inaudible; decide +kernel

/-- Input settings at the ends of what an INSET can carry. -/
def farInput : InputSettings :=
  { mode := .gated, trim := -32768, station := some 31, area := some .a, priority := 255, offset := 65535,
    debounce := 0, holdCode := 255, attackCode := 255, releaseCode := 255, lastMic := false }

theorem witness_InsetSetsAnInput :
    (Ready fresh .control ∧ Ready opened .control) ∧ InputSent farInput
      ∧ InputSent InputSettings.factory
      ∧ (fresh.input 0).settings = inputTaken InputSettings.factory
      ∧ (fresh.input 0).settings ≠ inputTaken farInput
      ∧ (fresh.input 0).settings.area ≠ farInput.area
      ∧ ((opened.input 0).settings.mode = .gated ∧ InputSettings.factory.mode ≠ .gated)
      ∧ ((opened.input 0).settings.area = farInput.area ∧ farInput.mode = .gated) ∧ (1 : Fin 24) ≠ 0 := by
  unfold Ready Listening InputSent Signed16 Unsigned8 Unsigned16; decide +kernel

/-- Lists with I1 OPEN alone in area A are sound: as an entry that a new priority, a new area or a new mode finds. -/
theorem witness_InsetSetsAnInput_lists :
    ListsSound opened ∧ opened.inputArea 0 = some .a ∧ opened.isEntry 0 = true ∧ opened.isEntry 1 = false
      ∧ (opened.input 0).settings.priority ≠ min 3 0 ∧ (opened.input 0).settings.priority = min 3 255
      ∧ (opened.input 0).settings.station ≠ farInput.station
      ∧ (opened.input 0).settings.station = InputSettings.factory.station := by
  refine ⟨lists_sound (by decide +kernel), ?_⟩
  decide +kernel

/-- R25: an entry takes a new priority; and a change of area withdraws it, with LIST-CHANGE reason 4 and length 0. -/
theorem test_inset_of_an_entry :
    reads (.inset 7 (insetBody 1 2 0 1 1 1 17)) opened (fun t => (t.area .a).list.map fun e => (e.input, e.priority))
        = some [(0, 1)]
      ∧ reads (.inset 7 (insetBody 1 2 0 2 3 1 17)) { opened with queue := [], subscribed := [.listChange] }
          (fun t => t.queue.map fun n => (n.kind, n.subject, n.value)) = some [(.listChange, 1, 65536 + 4 * 256)] := by
  decide +kernel

theorem witness_FrameLevelIsTheFlooredLogarithm :
    (∀ samples ∈ [loud, quiet], samples.length = 48 ∧ ∀ x ∈ samples, x.natAbs ≤ Config.fullScale)
      ∧ (∀ trim ∈ [(-200 : Int), 200], -200 ≤ trim ∧ trim ≤ 200)
      ∧ frameLevel 200 loud = 0 ∧ frameLevel (-200) loud = -200 ∧ frameLevel 0 quiet = -1200 := by decide +kernel

/-- I1 in a gate state, with a count, a debounce and an open threshold that a frame of silence, at -1200, meets
or not. -/
def gateCase (gate : GateState) (qualifying debounce : Nat) (threshold : Int) : State :=
  ready.setInput 0 { ready.input 0 with
    gate, qualifying, noiseFloor := threshold - 90, settings := { (ready.input 0).settings with debounce } }

/-- What a frame of silence compares: the level less the open threshold with which it began. -/
def margin (s : State) : Option Int :=
  reads (.inputFrame 0 quiet) s fun t => (t.input 0).level - ((s.input 0).noiseFloor + (s.input 0).settings.offset)

/-- A FREEZE pause of area A. -/
def frozenPart : State := ran ready [.paus 0 [1]]

theorem witness_InputFramesTakeTheirFiveStages :
    ready.powered = true ∧ frozenPart.frozen 0 = true ∧ (fresh.input 0).settings.mode ≠ .gated
      ∧ ((gateCase .opened 0 1 0).input 0).gate = .opened ∧ ((gateCase .holding 0 1 0).input 0).gate = .holding
      ∧ (ready.frozen 0 = false ∧ (ready.input 0).gate ≠ .opened ∧ (ready.input 0).gate ≠ .holding)
      ∧ reads (.inputFrame 0 quiet) ready (fun t => decide ((t.input 0).level < (ready.input 0).noiseFloor)) = some true
      ∧ reads (.inputFrame 0 loud) (ready.setInput 0 { ready.input 0 with noiseFloor := 0 })
          (fun t => (t.input 0).level) = some 0
      ∧ reads (.inputFrame 0 loud) ready (fun t => decide ((ready.input 0).noiseFloor < (t.input 0).level)) = some true
      ∧ (ready.input 0).rise + 1 < 64 ∧ 64 ≤ ({ ready.input 0 with rise := 63 } : Input).rise + 1
      ∧ (1 : Fin 24) ≠ 0 := by decide +kernel

theorem witness_GatesFollowTheirBands :
    (ready.powered = true ∧ ready.frozen 0 = false)
      ∧ (∀ gate ∈ [GateState.closed, .qualifying, .denied, .opened, .holding], ∀ count ∈ [0, 1, 2],
          ((gateCase gate count 3 (-1200)).input 0).gate = gate ∧ ((gateCase gate count 3 (-1200)).input 0).settings.mode = .gated)
      ∧ (∀ gate ∈ [GateState.closed, .qualifying, .denied, .holding],
          margin (gateCase gate 1 3 (-1200)) = some 0 ∧ margin (gateCase gate 1 3 (-1199)) = some (-1))
      ∧ (1 < ((gateCase .closed 0 2 0).input 0).settings.debounce ∧ ((gateCase .closed 0 1 0).input 0).settings.debounce ≤ 1)
      ∧ (((gateCase .qualifying 1 3 0).input 0).qualifying + 1 < ((gateCase .qualifying 1 3 0).input 0).settings.debounce
        ∧ ((gateCase .qualifying 2 3 0).input 0).settings.debounce ≤ ((gateCase .qualifying 2 3 0).input 0).qualifying + 1)
      ∧ margin (gateCase .opened 0 3 (-1170)) = some (-30) ∧ margin (gateCase .opened 0 3 (-1169)) = some (-31) := by
  decide +kernel

/-- I1 OPEN alone in area A, its hold time code 0 or 17. -/
def openedFor (code : Nat) (lastMicHold : Bool) : State :=
  (opened.setInput 0 { opened.input 0 with settings := { (opened.input 0).settings with holdCode := code } }).setArea .a
    { opened.area .a with settings := { (opened.area .a).settings with lastMicHold } }

theorem witness_GatesFollowTheirBands_lists :
    (∀ code ∈ [0, 17], ∀ stays ∈ [true, false],
        (openedFor code stays).powered = true ∧ (openedFor code stays).frozen 0 = false
          ∧ ((openedFor code stays).input 0).settings.mode = .gated ∧ ((openedFor code stays).input 0).gate = .opened
          ∧ (openedFor code stays).inputArea 0 = some .a ∧ (openedFor code stays).isEntry 0 = true)
      ∧ (timeCodeMs ((openedFor 0 true).input 0).settings.holdCode = 0
        ∧ 0 < timeCodeMs ((openedFor 17 true).input 0).settings.holdCode)
      ∧ ((openedFor 0 true).area .a).settings.lastMicHold = true ∧ ((openedFor 0 true).input 0).settings.lastMic = true
      ∧ ((openedFor 0 true).area .a).list.length = 1 ∧ ((openedFor 0 true).area .a).paused = false
      ∧ ((openedFor 0 false).area .a).settings.lastMicHold = false
      ∧ margin (openedFor 0 true) = margin (openedFor 17 false)
      ∧ (margin (openedFor 0 true)).map (fun m => decide (m < -30)) = some true := by decide +kernel

theorem witness_GatesFollowTheirBands_sound :
    ListsSound (openedFor 0 false) ∧ ((openedFor 0 true).area .a).nom = (openedFor 0 true).nomOf .a :=
  ⟨lists_sound (by decide +kernel), by decide +kernel⟩

/-- R53, R55: without a hold time the hold expires in the quiet frame itself. -/
theorem test_quiet_frame_without_hold_time :
    [true, false].map (fun stays => reads (.inputFrame 0 quiet) (openedFor 0 stays)
        fun t => ((t.input 0).gate, (t.area .a).list.map fun e => e.retained))
      = [some (.holding, [true]), some (.closed, [])] := by decide +kernel

/-- R33: a loud frame of a retained input makes it OPEN, and clears the retained flag. -/
theorem test_loud_frame_clears_the_hold :
    reads (.inputFrame 0 loud) (after [.inputFrame 0 quiet] (openedFor 0 true))
      (fun t => ((t.input 0).gate, (t.area .a).list.map fun e => (e.retained, e.hold))) = some (.opened, [(false, 0)]) := by
  decide +kernel

/-- Entries of I1 and I2, with a priority each. -/
def entryOf (i : Fin 24) (priority : Nat) : Entry := ⟨i, priority, 0, false, 0, 0, false⟩

theorem witness_VictimIsTheFirstInOrder :
    ready.firstVictim [entryOf 0 2, entryOf 1 1, entryOf 2 1] = some (entryOf 1 1)
      ∧ ready.holds (entryOf 0 2) = ready.holds (entryOf 1 1) := by decide +kernel

/-- Area A with max open 1, I1 OPEN with priority 3, and I2 of a priority asking. -/
def contested (priority : Byte) : State :=
  ran opened [.inset 0 (insetBody 2 2 0 1 priority 1 17), .arset 0 ([1, 1, 1] ++ word16 (-1000) ++ word16 60 ++ [0])]

/-- The three conditions of R50, step 4, for a request of an input at an area's list. -/
def mayGiveWay (s : State) (k : Area) (i : Fin 24) (e : Entry) : Bool :=
  decide (((s.input e.input).gate = .holding ∧ e.priority ≤ (s.input i).settings.priority)
    ∨ ((s.input e.input).gate ≠ .holding ∧ e.priority < (s.input i).settings.priority)
    ∨ ((s.input e.input).gate ≠ .holding ∧ (s.area k).settings.margin ≠ 0
        ∧ e.priority = (s.input i).settings.priority
        ∧ (s.input e.input).level ≤ (s.input i).level - (s.area k).settings.margin))

theorem witness_AdmissionsAreSettledInOrder :
    (∀ s ∈ [frozenPart, ready, contested 2], s.inputArea 0 = some .a ∧ ∀ e ∈ (s.area .a).list, e.retained = false)
      ∧ (contested 2).inputArea 1 = some .a
      ∧ ((frozenPart.area .a).paused = true ∧ (frozenPart.area .a).settings.pauseMode ≠ .track)
      ∧ (ready.area .a).list.length < (ready.area .a).settings.maxOpen
      ∧ ((contested 2).area .a).settings.maxOpen ≤ ((contested 2).area .a).list.length
      ∧ (contested 2).firstVictim (((contested 2).area .a).list.filter (mayGiveWay (contested 2) .a 1)) = none
      ∧ ((contested 4).firstVictim (((contested 4).area .a).list.filter
          (mayGiveWay ((contested 4).setInput 1 { (contested 4).input 1 with level := 0 }) .a 1))) = none
      ∧ (((after [.inputFrame 0 quiet] (contested 3)).firstVictim
          (((after [.inputFrame 0 quiet] (contested 3)).area .a).list.filter
            (mayGiveWay (after [.inputFrame 0 quiet] (contested 3)) .a 1))).map fun e => e.input) = some 0
      ∧ (0 : Fin 24) ≠ 1 := by decide +kernel

/-- I1 HOLDING in area A, alone on its list, with a hold remaining. -/
def holding (hold : Nat) : State :=
  (after [.inputFrame 0 quiet] opened).updateEntry .a 0 fun e => { e with hold }

/-- I1 retained in area A (R55, R56). -/
def kept : State := after [.holdExpiry 0] (holding 0)

theorem witness_AdmissionsAreSettledInOrder_retained :
    (∃ r, (kept.area .a).list = [r] ∧ r.retained = true ∧ r.input ≠ 1) ∧ 1 ≤ (kept.area .a).settings.maxOpen
      ∧ ¬ ((kept.area .a).paused = true ∧ (kept.area .a).settings.pauseMode ≠ .track)
      ∧ (ran kept [.inset 0 (insetBody 2 2 0 1 0 1 17)]).inputArea 1 = some .a :=
  ⟨⟨{ entryOf 0 3 with retained := true }, by decide +kernel⟩, by decide +kernel⟩

/-- I1 and I2 HOLDING in area A with a hold remaining each. -/
def pair (first second : Nat) : State :=
  ((ready.setInput 0 { ready.input 0 with gate := .holding }).setInput 1 { ready.input 0 with gate := .holding }).setArea
    .a { ready.area .a with list := [{ entryOf 0 3 with hold := first }, { entryOf 1 3 with hold := second }] }

theorem witness_HoldsCountDownAndExpire_tick :
    (∀ s ∈ [holding 1, pair 1 1, pair 1 2], (s.area .a).joinedInto = none ∧ (s.area .a).paused = false
        ∧ (s.area .a).tickTaken = false)
      ∧ (((holding 1).area .a).list.map fun e => (e.input, (holding 1).holds e, e.retained, e.ticked, e.hold))
        = [(0, true, false, false, 1)]
      ∧ (((holding 1).area .a).settings.lastMicHold = true ∧ ((holding 1).input 0).settings.lastMic = true)
      ∧ ((ran (holding 1) [.arset 0 ([1, 4, 0] ++ word16 (-1000) ++ word16 0 ++ [0])]).area .a).settings.lastMicHold
        = false
      ∧ ((pair 1 2).area .a).list = [] ++ { entryOf 0 3 with hold := 1 } :: [{ entryOf 1 3 with hold := 2 }]
      ∧ ((pair 1 1).area .a).list = [{ entryOf 0 3 with hold := 1 }, { entryOf 1 3 with hold := 1 }]
      ∧ ((pair 1 1).holds (entryOf 0 3) = true ∧ (pair 1 1).holds (entryOf 1 3) = true) ∧ (0 : Fin 24) ≠ 1
      ∧ (((pair 1 1).area .a).settings.lastMicHold = true ∧ ((pair 1 1).input 1).settings.lastMic = true) := by
  decide +kernel

/-- R54, R55: of two holds that end in one tick the first leaves, and the second is retained. -/
theorem test_two_holds_end_in_one_tick :
    reads (.holdTick .a) (pair 1 1) (fun t => (t.area .a).list.map fun e => (e.input, e.retained)) = some [(1, true)] := by
  decide +kernel

/-- I1, I2 and I3 HOLDING in area A, the holds of all three at 1. -/
def trio : State :=
  ((pair 1 1).setInput 2 (pair 1 1 |>.input 1)).setArea .a
    { (pair 1 1).area .a with list := ((pair 1 1).area .a).list ++ [{ entryOf 2 3 with hold := 1 }] }

theorem witness_HoldsCountDownAndExpire_in_turn :
    ListsSound trio ∧ trio.powered = true ∧ (trio.area .a).joinedInto = none ∧ (trio.area .a).paused = false
      ∧ (trio.area .a).tickTaken = false
      ∧ (trio.area .a).list.map (fun e => (e.input, trio.holds e, e.retained, e.ticked, e.hold))
        = [(0, true, false, false, 1), (1, true, false, false, 1), (2, true, false, false, 1)] :=
  ⟨lists_sound (by decide +kernel), by decide +kernel⟩

/-- R54, R55, R64: of three holds that end in one tick two leave, with LIST-CHANGE reason 3 and lengths 2 and 1, and the
last is retained. -/
theorem test_three_holds_end_in_one_tick :
    reads (.holdTick .a) { trio with queue := [], subscribed := [.listChange] } (fun t =>
        ((t.area .a).list.map fun e => (e.input, e.retained), t.queue.map fun n => (n.subject, n.value)))
      = some ([(2, true)], [(1, 65536 + 768 + 2), (2, 65536 + 768 + 1)]) := by decide +kernel

theorem witness_HoldsCountDownAndExpire :
    (ready.powered = true ∧ ((ran ready [.join 0 [1, 2]]).area .a).joinedInto ≠ none
        ∧ ((frozenPart.area .a).paused = true ∧ (frozenPart.area .a).settings.pauseMode = .freeze)
        ∧ ((after [.holdTick .a] ready).area .a).tickTaken = true)
      ∧ (((holding 2).area .a).joinedInto = none ∧ ((holding 2).area .a).paused = false
        ∧ ((holding 2).area .a).tickTaken = false
        ∧ ∀ e ∈ ((holding 2).area .a).list, (holding 2).holds e = true ∧ e.retained = false ∧ e.ticked = false ∧ 2 ≤ e.hold)
      ∧ ((holding 0).inputArea 0 = some .a
        ∧ ∃ e ∈ ((holding 0).area .a).list, e.input = 0 ∧ (holding 0).holds e = true ∧ e.retained = false ∧ e.hold = 0)
      ∧ (∀ e ∈ ((holding 1).area .a).list, e.hold ≠ 0)
      ∧ (((holding 0).area .a).settings.lastMicHold = true ∧ ((holding 0).input 0).settings.lastMic = true
        ∧ ((holding 0).area .a).list.length = 1)
      ∧ ((ran (holding 0) [.arset 0 ([1, 4, 0] ++ word16 (-1000) ++ word16 0 ++ [0])]).area .a).settings.lastMicHold
        = false := by decide +kernel

/-- Area settings at the ends of what an ARSET can carry. -/
def farArea : AreaSettings := ⟨0, true, -32768, 65535, .drain⟩

theorem witness_ArsetSetsAnArea :
    Ready ready .control ∧ AreaSent farArea ∧ ((ran ready [.join 0 [2, 1]]).area .b).joinedInto ≠ none
      ∧ Ready (ran ready [.join 0 [2, 1]]) .control ∧ (ready.area .a).joinedInto = none
      ∧ (ready.input 0).settings.mode = .gated ∧ ready.inputArea 0 = some .a ∧ Area.b ≠ .a
      ∧ (Ready opened .control ∧ (opened.area .a).list.length = 1 ∧ (areaTaken farArea).maxOpen = 1
        ∧ ∀ e ∈ (opened.area .a).list, e.retained = false) := by
  unfold Ready Listening AreaSent Unsigned8 Signed16 Unsigned16; decide +kernel

theorem witness_ArsetSetsAnArea_sound :
    (ListsSound (pair 1 2) ∧ ListsSound kept) ∧ Ready (pair 1 2) .control ∧ Ready kept .control
      ∧ ((pair 1 2).area .a).joinedInto = none ∧ (kept.area .a).joinedInto = none
      ∧ ((pair 1 2).area .a).list.length = (areaTaken farArea).maxOpen + 1
      ∧ (kept.area .a).settings.lastMicHold = true ∧ ((kept.area .a).list.map fun e => e.retained) = [true] := by
  refine ⟨⟨lists_sound (by decide +kernel), lists_sound (by decide +kernel)⟩, ?_⟩
  unfold Ready Listening; decide +kernel

/-- R47, R49, R64: a max open of 1 takes the older of two HOLDING entries, with LIST-CHANGE reason 5 and length 1. -/
theorem test_arset_reduces :
    reads (.arset 7 ([1, 1, 1] ++ word16 (-1000) ++ word16 0 ++ [0]))
        { pair 1 2 with queue := [], subscribed := [.listChange] } (fun t =>
          ((t.area .a).list.map fun e => e.input, (t.input 0).gate, t.queue.map fun n => (n.subject, n.value)))
      = some ([1], .closed, [(1, 65536 + 1280 + 1)]) := by decide +kernel

theorem witness_PausAndRsumWriteThePauseFlag :
    (Ready (ran ready [.join 0 [2, 1]]) .control ∧ ((ran ready [.join 0 [2, 1]]).area .b).joinedInto ≠ none)
      ∧ (Ready ready .control ∧ (ready.area .a).joinedInto = none ∧ (ready.area .a).paused = false)
      ∧ (Ready frozenPart .control ∧ (frozenPart.area .a).paused = true)
      ∧ ((ran ready [.arset 0 ([1] ++ farArea.bytes)]).area .a).settings.pauseMode = .drain
      ∧ (ready.area .a).settings.pauseMode ≠ .drain := by
  unfold Ready Listening; decide +kernel

/-- I1 retained in area A, whose pause mode is DRAIN. -/
def draining : State := ran kept [.arset 0 ([1, 4, 1] ++ word16 (-1000) ++ word16 0 ++ [1])]

theorem witness_PausAndRsumWriteThePauseFlag_drain :
    ListsSound draining ∧ Ready draining .control ∧ (draining.area .a).joinedInto = none
      ∧ (draining.area .a).paused = false ∧ (draining.area .a).settings.pauseMode = .drain
      ∧ (draining.area .a).list.map (fun e => e.retained) = [true] := by
  refine ⟨lists_sound (by decide +kernel), ?_⟩
  unfold Ready Listening; decide +kernel

/-- R61, R64: the retained entry that a DRAIN pause removes is announced with LIST-CHANGE reason 6 and length 0. -/
theorem test_drain_pause_releases :
    reads (.paus 7 [1]) { draining with queue := [], subscribed := [.listChange] } (fun t =>
        ((t.area .a).list, (t.input 0).gate, t.queue.map fun n => (n.subject, n.value)))
      = some ([], .closed, [(1, 65536 + 1536)]) := by decide +kernel

/-- C joined into A. -/
def joined : State := ran fresh [.join 0 [3, 1]]

theorem witness_JoinMergesTwoAreas :
    (Ready joined .control ∧ (joined.area .c).joinedInto = some .a ∧ (joined.area .a).joinedInto = none)
      ∧ (Area.b ≠ .a ∧ (joined.area .b).joinedInto = none ∧ (joined.area .a).joinedInto = none
        ∧ (∀ l ∈ allAreas, (joined.area l).joinedInto ≠ some .b)) := by
  unfold Ready Listening; decide +kernel

theorem witness_JoinMergesTwoAreas_lists :
    Ready opened .control ∧ (opened.area .a).list.length + (opened.area .b).list.length ≤ (opened.area .b).settings.maxOpen
      ∧ (opened.area .a).list.length = 1 ∧ ∀ e ∈ (opened.area .a).list ++ (opened.area .b).list, e.retained = false := by
  unfold Ready Listening; decide +kernel

/-- I1 and I2 HOLDING in area A, and area B with max open 1. -/
def narrow : State := ran (pair 1 2) [.arset 0 ([2, 1, 1] ++ word16 (-1000) ++ word16 0 ++ [0])]

theorem witness_JoinMergesTwoAreas_sound :
    (ListsSound narrow ∧ ListsSound kept) ∧ Ready narrow .control ∧ Ready kept .control
      ∧ (narrow.area .a).list.length = (narrow.area .b).settings.maxOpen + 1 ∧ (narrow.area .b).list = []
      ∧ ((kept.area .a).list.map fun e => e.retained) = [true] ∧ (kept.area .b).list = []
      ∧ (∀ l ∈ allAreas, (narrow.area l).joinedInto = none ∧ (kept.area l).joinedInto = none) := by
  refine ⟨⟨lists_sound (by decide +kernel), lists_sound (by decide +kernel)⟩, ?_⟩
  unfold Ready Listening; decide +kernel

/-- R97: a lead of max open 1 sheds the older of two HOLDING entries, with LIST-CHANGE reason 7; and a retained entry
that comes to a lead with no other entry and with last-mic hold on stays retained. -/
theorem test_join_passes :
    reads (.join 7 [1, 2]) { narrow with queue := [], subscribed := [.listChange] } (fun t =>
          ((t.area .b).list.map fun e => e.input, (t.input 0).gate, t.queue.map fun n => (n.subject, n.value)))
        = some ([1], .closed, [(1, 131072 + 1792 + 1)])
      ∧ reads (.join 7 [1, 2]) kept (fun t => (t.area .b).list.map fun e => e.retained) = some [true] := by decide +kernel

theorem witness_SpltDividesTwoAreas :
    Ready joined .control ∧ (joined.area .a).joinedInto = none ∧ (joined.area .c).joinedInto = some .a
      ∧ Area.c ≠ .a := by
  unfold Ready Listening; decide +kernel

/-- A, with I1 OPEN, joined into B; and I1 then retained there, with last-mic hold off in A. -/
def lent : State := ran opened [.join 0 [1, 2]]
def lentKept : State :=
  ran ((after [.inputFrame 0 quiet] lent).updateEntry .b 0 fun e => { e with hold := 0 })
    [.holdExpiry 0, .arset 0 ([1, 4, 0] ++ word16 (-1000) ++ word16 0 ++ [0])]

theorem witness_SpltDividesTwoAreas_lists :
    (∀ s ∈ [lent, lentKept], Ready s .control ∧ (s.area .a).joinedInto = some .b
        ∧ ((s.area .b).list.filter fun e => (s.input e.input).settings.area == some .a).map (fun e => e.input) = [0]
        ∧ 1 ≤ (s.area .a).settings.maxOpen)
      ∧ ((lent.area .b).list.map fun e => e.retained) = [false]
      ∧ ((lent.area .a).settings.lastMicHold = true ∧ (lent.area .a).paused = false)
      ∧ ((lentKept.area .b).list.map fun e => e.retained) = [true]
      ∧ (lentKept.area .a).settings.lastMicHold = false := by
  unfold Ready Listening; decide +kernel

/-- A, with I1 and I2 HOLDING, joined into B, its own max open 1. -/
def lentPair : State := ran (pair 1 2) [.join 0 [1, 2], .arset 0 ([1, 1, 1] ++ word16 (-1000) ++ word16 0 ++ [0])]

theorem witness_SpltDividesTwoAreas_sound :
    (ListsSound lentKept ∧ ListsSound lentPair) ∧ Ready lentPair .control ∧ (lentPair.area .a).joinedInto = some .b
      ∧ (lentPair.area .a).settings.maxOpen = 1
      ∧ ((lentPair.area .b).list.map fun e => (lentPair.input e.input).settings.area) = [some .a, some .a] := by
  refine ⟨⟨lists_sound (by decide +kernel), lists_sound (by decide +kernel)⟩, ?_⟩
  unfold Ready Listening; decide +kernel

/-- R100: of two entries that come to a list of max open 1 the older leaves, with LIST-CHANGE reason 7. -/
theorem test_splt_overflow :
    reads (.splt 7 [1]) { lentPair with queue := [], subscribed := [.listChange] } (fun t =>
        ((t.area .a).list.map fun e => e.input, (t.input 0).gate, t.queue.map fun n => (n.subject, n.value)))
      = some ([1], .closed, [(1, 65536 + 1792 + 1)]) := by decide +kernel

/-- Zone scene fields at the ends of what a ZNSET can carry. -/
def farZone : ZoneScene := ⟨some .a, 32767, -32768, 32767, -32768⟩

theorem witness_ZnsetSetsAZonesSceneFields :
    Ready fresh .control ∧ ZoneSceneSent farZone ∧ farZone.area ≠ (fresh.zone 0).scene.area
      ∧ ZoneSceneSent ZoneScene.factory ∧ ZoneScene.factory.area = (fresh.zone 0).scene.area
      ∧ zoneOf 16 = 0 ∧ zoneOf 17 ≠ 0 ∧ (1 : Fin 16) ≠ 0 := by
  unfold Ready Listening ZoneSceneSent Signed16; decide +kernel

theorem witness_SendAndSnapWriteThePlan :
    Ready fresh .control ∧ ([-32768, 32767] : List Int) ≠ [] ∧ (14 : Fin 16).val + 2 ≤ 16
      ∧ (∀ v ∈ ([-32768, 32767] : List Int), Signed16 v)
      ∧ (inputOf 0 ≠ 1 ∧ inputOf 31 = 1 ∧ (zoneOf 29).val < 14 ∧ (zoneOf 30).val = 14 + 0 ∧ (zoneOf 31).val = 14 + 1)
      ∧ (sendTaken (-32768) = (fresh.crosspoint 30).send ∧ sendTaken 32767 ≠ (fresh.crosspoint 31).send)
      ∧ (some (0 : Fin 16) = some (zoneOf 16) ∧ some (0 : Fin 16) ≠ none ∧ some (0 : Fin 16) ≠ some (zoneOf 17)) := by
  unfold Ready Listening Signed16; decide +kernel

/-- Crosspoint 5 with a move, and a pending delay or none. -/
def moving (elapsed length : Nat) (pending : Option Nat) : State :=
  fresh.setCrosspoint 5 { fresh.crosspoint 5 with
    targetDelay := pending.getD 600, move := some ⟨600, elapsed, length⟩, pendingDelay := pending }

theorem witness_PlanStepsRampGainsAndAdvanceMoves :
    fresh.powered = true ∧ (fresh.crosspoint 5).move = none
      ∧ (((moving 0 2 none).crosspoint 5).move = some ⟨600, 0, 2⟩ ∧ 0 + 1 < 2)
      ∧ (((moving 1 2 none).crosspoint 5).move = some ⟨600, 1, 2⟩ ∧ 2 ≤ 1 + 1
        ∧ ((moving 1 2 none).crosspoint 5).pendingDelay = none)
      ∧ (((moving 1 2 (some 599)).crosspoint 5).move = some ⟨600, 1, 2⟩
        ∧ ((moving 1 2 (some 599)).crosspoint 5).pendingDelay = some 599 ∧ 599 ≠ 600)
      ∧ (((moving 2 2 none).crosspoint 5).move = some ⟨600, 2, 2⟩ ∧ 2 ≤ 2) := by decide +kernel

/-- Crosspoint 5 at the end of its move, audible or not, with a pending delay, in a zone with a move time or none. -/
theorem witness_PlanStepsRampGainsAndAdvanceMoves_pending :
    (Inaudible (moving 2 2 (some 599)) 5 ((moving 2 2 (some 599)).crosspoint 5)
        ∧ ((moving 2 2 (some 599)).crosspoint 5).pendingDelay = some 599 ∧ moveFramesAt (moving 2 2 (some 599)) 5 ≠ 0)
      ∧ reads (.planFrameStep (soundOf quiet)) (moving 1 2 (some 599)) (fun t => (t.crosspoint 5).activeGain)
        = some (-1000)
      ∧ (¬ Inaudible fresh 5 { fresh.crosspoint 5 with activeGain := 0, targetGain := 0 })
      ∧ reads (.planFrameStep (soundOf quiet))
          (fresh.setCrosspoint 5 { (moving 1 2 (some 599)).crosspoint 5 with activeGain := 0, targetGain := 0 })
          (fun t => ((t.crosspoint 5).activeGain, (t.crosspoint 5).move)) = some (0, some ⟨599, 0, 127⟩)
      ∧ moveFramesAt (fresh.setZone 5 { fresh.zone 5 with
          geometry := { ZoneGeometry.factory with moveCode := 0 } }) 5 = 0 := by unfold Inaudible; decide +kernel

theorem witness_RampsAndMovesArrive :
    (((moving 0 2 none).crosspoint 5).move = some ⟨600, 0, 2⟩ ∧ ((moving 0 2 none).crosspoint 5).pendingDelay = none
        ∧ 0 < 2 ∧ 0 + [soundOf quiet].length < 2 ∧ 0 + [soundOf quiet, soundOf quiet].length = 2)
      ∧ (fresh.powered = true ∧ 1 ≤ (fresh.zone (zoneOf 5)).geometry.slew
        ∧ GainInRange ({ fresh.crosspoint 5 with targetGain := 120 } : Crosspoint).targetGain
        ∧ GainInRange (fresh.crosspoint 5).activeGain ∧ 721 ≤ (List.replicate 721 (soundOf quiet)).length) := by
  unfold GainInRange; decide +kernel

theorem witness_ZoneOutputsFollowTheirSelectors :
    (fresh.powered = true ∧ (∀ i, (fresh.crosspoint (crosspointOf i 0)).activeGain = -1000
        ∧ (fresh.crosspoint (crosspointOf i 0)).targetGain = -1000) ∧ (fresh.zone 0).selected = .crosspointSum)
      ∧ (((after [.frameBoundary] overridden).zone 0).selected = .alarmSource
        ∧ ((after [.frameBoundary] overridden).zone 0).levelInEffect = 0
        ∧ ∀ x ∈ (soundOf loud).source, x.natAbs ≤ Config.fullScale) := by decide +kernel

/-- I1 alone heard in Z1, at unity, at a delay; its frame taken or still to come. -/
def unity (delay : Nat) (frameTaken : Bool) (memory : List Int) : State :=
  (fresh.setCrosspoint 0 { fresh.crosspoint 0 with activeGain := 0, targetGain := 0, activeDelay := delay }).setInput 0
    { fresh.input 0 with gain := 0, gainUsed := 0, frameTaken, memory }

theorem witness_ZoneOutputsFollowTheirSelectors_tap :
    (∀ delay ∈ [0, 16383], ∀ taken ∈ [true, false],
        ((unity delay taken [5]).crosspoint (crosspointOf 0 0)).activeGain = 0
          ∧ ((unity delay taken [5]).crosspoint (crosspointOf 0 0)).move = none
          ∧ ((unity delay taken [5]).crosspoint (crosspointOf 0 0)).activeDelay = delay ∧ delay ≤ 16383
          ∧ ((unity delay taken [5]).input 0).frameTaken = taken)
      ∧ (∀ j, j ≠ 0 → ((unity 0 true [5]).crosspoint (crosspointOf j 0)).activeGain = -1000
        ∧ ((unity 0 true [5]).crosspoint (crosspointOf j 0)).targetGain = -1000)
      ∧ (∀ x ∈ ((soundOf quiet).inputs.getD 0 []).reverse ++ [5], x.natAbs ≤ Config.fullScale) := by decide +kernel

/-- R89: delay 0 is the present sample and delay 1 the one before it, whether the plan step follows the input's
frame or precedes it. -/
theorem test_taps_count_from_the_present_sample :
    (∀ s ∈ [unity 0 true (loud ++ [5]), unity 0 false [5]],
        reads (.planFrameStep ⟨quiet, List.replicate 24 loud⟩) s (fun t => (t.zone 0).sum) = some loud)
      ∧ (∀ s ∈ [unity 1 true (loud ++ [5]), unity 1 false [5]],
        reads (.planFrameStep ⟨quiet, List.replicate 24 loud⟩) s (fun t => (t.zone 0).sum.take 2)
          = some [5, 2 ^ 31]) := by decide +kernel

/-- `unity`, its crosspoint MOVING from delay 0 to a delay. -/
def unityMoving (dest elapsed length : Nat) : State :=
  (unity 0 true (loud ++ [5])).setCrosspoint 0
    { (unity 0 true (loud ++ [5])).crosspoint 0 with move := some ⟨dest, elapsed, length⟩ }

/-- Z1 with its selector on the alarm source, at an alarm level. -/
def sounding (level : Int) : State :=
  fresh.setZone 0 { fresh.zone 0 with selected := .alarmSource, levelInEffect := level }

theorem witness_ZoneOutputsFollowTheirSelectors_move :
    (∀ m ∈ [(⟨48, 0, 1⟩ : Move), ⟨16383, 6, 7⟩],
        ((unityMoving m.dest m.elapsed m.length).crosspoint (crosspointOf 0 0)).move = some m
          ∧ m.elapsed < m.length ∧ m.dest ≤ 16383
          ∧ ((unityMoving m.dest m.elapsed m.length).crosspoint (crosspointOf 0 0)).activeGain = 0
          ∧ ((unityMoving m.dest m.elapsed m.length).input 0).gain = 0
          ∧ ((unityMoving m.dest m.elapsed m.length).input 0).gainUsed = 0)
      ∧ (∀ j, j ≠ 0 → ((unityMoving 48 0 1).crosspoint (crosspointOf j 0)).activeGain = -1000
        ∧ ((unityMoving 48 0 1).crosspoint (crosspointOf j 0)).targetGain = -1000)
      ∧ (∀ x ∈ loud ++ [5], x.natAbs ≤ Config.fullScale)
      ∧ (∀ level ∈ [-300, -1, 120], ((sounding level).zone 0).selected = .alarmSource
        ∧ ((sounding level).zone 0).levelInEffect = level) := by decide +kernel

/-- R83: a move of length 1 passes from the tap at F to the tap at T within 48 samples: half way at the 24th, and at
T alone by the last. -/
theorem test_crossfade :
    reads (.planFrameStep (soundOf quiet)) (unityMoving 48 0 1)
      (fun t => [23, 47].map fun n => (t.zone 0).sum.getD n 0)
      = some [2 ^ 30, 5] := by decide +kernel

/-- I1 and I2 heard in Z1 at 0 td, the gate gain of I1 falling from 0 to the floor in this frame. -/
def duet : State :=
  ((unity 0 false []).setCrosspoint 16 { (unity 0 false []).crosspoint 0 with activeDelay := 0 }).setInput 0
      { (unity 0 false []).input 0 with gain := -1000 } |>.setInput 1 ((unity 0 false []).input 0)

theorem witness_ZoneOutputsFollowTheirSelectors_sum :
    duet.powered = true ∧ (∀ i, (duet.input i).memory = [])
      ∧ (∀ i : Fin 24, ∀ x ∈ ((List.replicate 24 (List.replicate 48 480)).getD i.val [] : List Int),
          x.natAbs ≤ Config.fullScale)
      ∧ (∀ i, (duet.crosspoint (crosspointOf i 0)).activeDelay ≤ 16383)
      ∧ (∀ i, (duet.crosspoint (crosspointOf i 0)).move = none)
      ∧ ((unityMoving 48 0 1).crosspoint (crosspointOf 0 0)).move = some ⟨48, 0, 1⟩ := by decide +kernel

/-- R90: two contributions are added, and a gate gain that falls to silence has lost k parts in 48 of its amplitude at
sample k. -/
theorem test_sum_of_two_while_a_gate_falls :
    reads (.planFrameStep ⟨quiet, List.replicate 24 (List.replicate 48 480)⟩) duet
      (fun t => [0, 23, 47].map fun n => (t.zone 0).sum.getD n 0) = some [480 + 470, 480 + 240, 480] := by decide +kernel

/-- R147: at -200 td a sample is a tenth. -/
theorem test_alarm_level :
    reads (.planFrameStep (soundOf [100, -2000000000])) (sounding (-200)) (fun t => (t.zone 0).output)
        = some [10, -200000000] := by decide +kernel

theorem witness_FiltersAcceptASettledLevel :
    1 ≤ 2 ∧ (⟨some (!true), 0, none⟩ : LineFilter).accepted = some (!true)
      ∧ (⟨some (!true), 0, none⟩ : LineFilter).run = 0
      ∧ ((⟨some (!true), 0, none⟩ : LineFilter).run + 1 < 2 ∧ 2 ≤ (⟨some (!true), 1, none⟩ : LineFilter).run + 1)
      ∧ (⟨none, 1, some true⟩ : LineFilter).accepted = none
      ∧ ((⟨none, 1, some true⟩ : LineFilter).last = some true ∧ (⟨none, 1, some true⟩ : LineFilter).last ≠ some false) := by
  decide

/-- Readings that bounce have no two equal ones in a row. -/
theorem witness_FiltersAcceptASettledLevel_bounce (level : Bool) (before later : List Bool) :
    [true, false, true] ≠ before ++ List.replicate 2 level ++ later := by
  rcases before with _ | ⟨a, _ | ⟨b, _ | ⟨c, rest⟩⟩⟩ <;> cases level <;> simp [List.replicate]

/-- Table 6-1. -/
theorem test_filtering_one_edge :
    ((List.range 7).map fun n =>
        let f := ([true, false, true, true, true, true].take n).foldl (fun f x => f.sample 4 x)
          (⟨some false, 0, some false⟩ : LineFilter)
        (f.run, f.accepted))
      = [(0, some false), (1, some false), (0, some false), (1, some false), (2, some false), (3, some false),
         (0, some true)] := by decide

/-- Panel P1 enabled on Z1, its lines accepted high, high, high and A about to be accepted low. -/
def turning : State :=
  fresh.setPanel 0 { fresh.panel 0 with
    scene := ⟨some 0, true⟩, lineA := ⟨some true, 3, some false⟩, lineB := ⟨some true, 0, some true⟩,
    lineZ := ⟨some true, 0, some true⟩, reference := some (true, true) }

theorem witness_PanelSamplesActOnTheirPanel :
    fresh.powered = true
      ∧ reads (.panelSample 0 true true true) fresh (fun t => ((t.panel 0).lineA.accepted, (t.panel 0).lineB.accepted))
        = some ((fresh.panel 0).lineA.accepted, (fresh.panel 0).lineB.accepted)
      ∧ reads (.panelSample 0 false true true) turning (fun t => ((t.panel 0).lineA.accepted, (t.panel 0).lineB.accepted))
        = some (some false, some true)
      ∧ (turning.panel 0).lineA.accepted = some true
      ∧ (¬ ((fresh.panel 0).scene.enabled = true ∧ (fresh.panel 0).scene.zone = some 0))
      ∧ ((fresh.zone 0).scene.trimMin ≤ (fresh.zone 0).scene.trimDefault
        ∧ (fresh.zone 0).scene.trimDefault ≤ (fresh.zone 0).scene.trimMax
        ∧ (fresh.zone 0).scene.trimMin ≤ (fresh.zone 0).trim ∧ (fresh.zone 0).trim ≤ (fresh.zone 0).scene.trimMax)
      ∧ (1 : Fin 8) ≠ 0 := by decide +kernel

/-- P1 on Z1, or on none, from a reference state and an accumulator, its Z line about to be accepted low. -/
def turningFrom (scene : PanelScene) (reference : Bool × Bool) (accumulator : Int) : State :=
  turning.setPanel 0 { turning.panel 0 with
    scene, reference := some reference, accumulator, lineZ := ⟨some true, 3, some false⟩ }

theorem witness_PanelSamplesActOnTheirPanel_acts :
    (∀ levelZ ∈ [true, false],
        reads (.panelSample 0 false true levelZ) (turningFrom ⟨some 0, true⟩ (true, true) 0)
            (fun t => ((t.panel 0).lineA.accepted, (t.panel 0).lineZ.accepted))
          = some (some false, some levelZ))
      ∧ (decodePair (true, true) (false, true) = .edge 1 ∧ decodePair (true, false) (false, true) = .illegal
        ∧ decodePair (false, true) (false, true) = .nothing)
      ∧ ((Panel.addEdge { turning.panel 0 with accumulator := 0 } 1).2 = none
        ∧ (Panel.addEdge { turning.panel 0 with accumulator := 3 } 1).2 = some .clockwise)
      ∧ (((turningFrom ⟨some 0, true⟩ (true, true) 0).panel 0).scene = ⟨some 0, true⟩
        ∧ ((turningFrom ⟨none, true⟩ (true, true) 0).panel 0).scene.zone = none
        ∧ (turning.panel 0).fault = false ∧ ({ turning.panel 0 with fault := true } : Panel).fault = true)
      ∧ (fresh.panel 0).reference = none := by decide +kernel

/-- R109, R110: the fourth edge of a detent turns the trim by the panel's step; R108: an illegal transition counts;
R112: a push sets the trim to its default and clears the accumulator. -/
theorem test_panel_sample_acts :
    (reads (.panelSample 0 false true true) (turningFrom ⟨some 0, true⟩ (true, true) 3)
        (fun t => ((t.zone 0).trim, (t.panel 0).accumulator)) = some (5, 0))
      ∧ (reads (.panelSample 0 false true true) (turningFrom ⟨some 0, true⟩ (true, false) 3)
        (fun t => ((t.panel 0).illegal, (t.panel 0).fault, (t.panel 0).accumulator)) = some (1, true, 3))
      ∧ (reads (.panelSample 0 true true false)
        ((turningFrom ⟨some 0, true⟩ (true, true) 3).setZone 0 { fresh.zone 0 with trim := -7 })
        (fun t => ((t.zone 0).trim, (t.panel 0).accumulator)) = some (0, 0)) := by decide +kernel

/-- R111: a detent from 29 to 34 takes Z1's trim up through the threshold 30, and one from 30 does not; a push to a
default of 40 does. -/
theorem test_panel_level :
    [29, 30].map (fun trim => reads (.panelSample 0 false true true)
        { (turningFrom ⟨some 0, true⟩ (true, true) 3).setZone 0 { fresh.zone 0 with trim } with queue := [] }
        fun t => t.queue.map fun n => (n.kind, n.subject, n.value)) = [some [(.panelLevel, 1, 34)], some []]
      ∧ reads (.panelSample 0 true true false)
        { (turningFrom ⟨some 0, true⟩ (true, true) 3).setZone 0
            { fresh.zone 0 with scene := { ZoneScene.factory with trimDefault := 40 } } with queue := [] }
        (fun t => t.queue.map fun n => (n.kind, n.subject, n.value)) = some [(.panelLevel, 1, 40)] := by decide +kernel

theorem witness_DetentsTurnTheTrim :
    ((turning.panel 0).scene = ⟨some 0, true⟩ ∧ (turning.zone 0).scene.trimMin ≤ (turning.zone 0).scene.trimMax)
      ∧ (Panel.initial.building.edges : Int) ≤ ({ Panel.initial with accumulator := 3 } : Panel).accumulator + 1
      ∧ ({ Panel.initial with accumulator := -3 } : Panel).accumulator + -1 ≤ -(Panel.initial.building.edges : Int)
      ∧ (Panel.initial.accumulator + 1 < (Panel.initial.building.edges : Int)
        ∧ -(Panel.initial.building.edges : Int) < Panel.initial.accumulator + 1) := by decide +kernel

/-- The building part of panel settings at the ends of what a PNSET can carry. -/
def farPanel : PanelBuilding := ⟨4, 0, 255, -32768⟩

theorem witness_PnsetSetsAPanel : Ready fresh .control ∧ PanelSent farPanel ∧ (1 : Fin 8) ≠ 0 := by
  unfold Ready Listening PanelSent Unsigned8 Signed16; decide +kernel

/-- A part whose key switch has read low seven times, with no level accepted or with high. -/
def keyed (s : State) (accepted : Option Bool) : State := { s with key := ⟨accepted, 7, some false⟩ }

/-- A part with an ALCF in flight. -/
def alarmWrite : State :=
  { fresh with operation := some (.alcf AlarmSettings.factory), store := fresh.store.begin (.alcf AlarmSettings.factory) }

/-- A part whose alarm record asks for auto-arm. -/
def autoArming : State :=
  { fresh with alarm := { fresh.alarm with settings := { fresh.alarm.settings with autoArm := true } } }

theorem witness_KeySwitchSamplesAreFiltered :
    (fresh.key.sample 8 true).accepted = fresh.key.accepted
      ∧ ((keyed fresh (some true)).key.accepted = some true
        ∧ ((keyed fresh (some true)).key.sample 8 false).accepted ≠ (keyed fresh (some true)).key.accepted)
      ∧ ((keyed fresh none).key.accepted = none ∧ ((keyed fresh none).key.sample 8 false).accepted ≠ none)
      ∧ ((keyed alarmWrite none).operation = some (.alcf AlarmSettings.factory))
      ∧ ((keyed armed none).alarm.state ≠ .disarmed ∧ (keyed fresh none).alarm.settings.autoArm = false)
      ∧ ((keyed autoArming none).alarm.state = .disarmed ∧ (keyed autoArming none).alarm.settings.autoArm = true
        ∧ 0 < timeCodeMs (keyed autoArming none).alarm.settings.code ∧ (keyed autoArming none).operation = none)
      ∧ timeCodeMs ({ autoArming.alarm.settings with code := 0 } : AlarmSettings).code = 0 := by decide +kernel

/-- A part with the latch set, at a protection level with the lock set, its key switch LOCKED. -/
def latched (level : Protection) : State :=
  { fresh with latch := true, guard := ⟨level, true⟩, key := ⟨some false, 0, some false⟩ }

/-- Alarm settings at the ends of what an ALCF can carry. -/
def farAlarm : AlarmSettings := ⟨Table.replicate 16 (-32768), 255, .alert, some 63, true⟩

theorem farAlarm_sent : AlarmSent farAlarm :=
  ⟨fun z => by rw [farAlarm, Table.get_replicate]; unfold Signed16; decide, by unfold Unsigned8; decide⟩

/-- The five store requests, each with arguments that pass. -/
theorem witness_StoreAsked (s : State) :
    StoreAsked s 7 (.scst 7 (byteOf (48 : Fin 64).val ++ labelBytes (List.replicate 16 0x41)))
        (.scst 48 (s.liveSetup (List.replicate 16 0x41))) 0x31 false
      ∧ StoreAsked s 7 (.scer 7 (byteOf (31 : Fin 64).val)) (.scer 31) 0x32 false
      ∧ StoreAsked s 7 (.bldw 7 (slotByte none)) (.bldw (s.liveGeometry none)) 0x34 false
      ∧ StoreAsked s 7 (.prot 7 (protectionByte .full ++ flagByte true)) (.prot ⟨.full, true⟩) 0x37 false
      ∧ StoreAsked s 7 (.alcf 7 farAlarm.bytes) (.alcf (alarmTaken farAlarm)) 0x38 (decide (alarmTaken farAlarm ≠ farAlarm)) :=
  ⟨.scst 48 _ (by unfold LabelFits; decide +kernel), .scer 31, .bldw none, .prot ⟨.full, true⟩, .alcf farAlarm farAlarm_sent⟩

theorem witness_StoreRequestsAreCheckedInOrder :
    (Ready storing .control ∧ storing.operation ≠ none)
      ∧ (Ready fresh .control ∧ fresh.operation = none ∧ fresh.latch = false)
      ∧ (Ready (latched .quarter) .control ∧ (latched .quarter).operation = none ∧ (latched .quarter).latch = true)
      ∧ (InProtectedRange .quarter (.scst 48 Scene.factory) ∧ ¬ InProtectedRange .quarter (.scst 47 Scene.factory)
        ∧ InProtectedRange .half (.scer 32) ∧ ¬ InProtectedRange .half (.scer 31)
        ∧ InProtectedRange .full (.alcf farAlarm) ∧ ¬ InProtectedRange .full (.prot Guard.factory))
      ∧ (LockedOut (latched .full) (.prot Guard.factory) ∧ ¬ LockedOut fresh (.prot Guard.factory)
        ∧ LockedOut { latched .half with alarm := primed.alarm } (.alcf farAlarm) ∧ ¬ LockedOut fresh (.alcf farAlarm)
        ∧ ¬ LockedOut (latched .half) (.scer 31)) := by
  unfold Ready Listening InProtectedRange LockedOut; decide +kernel

/-- A part with a store operation in flight. -/
def inFlight (op : StoreOp) : State := { fresh with operation := some op, store := fresh.store.begin op }

theorem witness_StoreCompletionsWriteTheirTarget :
    fresh.powered = true ∧ fresh.operation = none ∧ (inFlight (.scer 63)).alarm.autoArmDeferred = false
      ∧ (inFlight (.scst 0 Scene.factory)).operation = some (.scst 0 Scene.factory)
      ∧ (inFlight (.scer 63)).operation = some (.scer 63)
      ∧ (inFlight (.bldw Building.factory)).operation = some (.bldw Building.factory)
      ∧ (inFlight (.alcf farAlarm)).operation = some (.alcf farAlarm)
      ∧ (inFlight (.prot Guard.factory)).operation = some (.prot Guard.factory) :=
  ⟨rfl, rfl, rfl, rfl, rfl, rfl, rfl, rfl⟩

/-- A part whose auto-arm decision waits for an ALCF of a supervision time code, with the key switch LOCKED. -/
def deferring (code : Nat) (autoArm : Bool) : State :=
  let s := inFlight (.alcf { AlarmSettings.factory with code, autoArm })
  { s with alarm := { s.alarm with autoArmDeferred := true }, key := ⟨some false, 0, some false⟩, queue := [] }

theorem witness_StoreCompletionsWriteTheirTarget_deferred :
    (∀ code ∈ [0, 1, 30], ∀ arm ∈ [true, false], (deferring code arm).powered = true
        ∧ (deferring code arm).operation = some (.alcf { AlarmSettings.factory with code, autoArm := arm })
        ∧ (deferring code arm).alarm.autoArmDeferred = true ∧ (deferring code arm).key.accepted = some false
        ∧ (deferring code arm).alarm.state = .disarmed)
      ∧ 0 < timeCodeMs 1 ∧ timeCodeMs 0 = 0 := by decide +kernel

/-- R139, R142: the completion of the ALCF takes the decision that waited for it, with its auto-arm on or off. -/
theorem test_deferred_auto_arm :
    [true, false].map (fun arm => reads .storeCompletion (deferring 1 arm)
        fun t => (t.alarm.state, t.alarm.timer, t.queue.map fun n => n.kind))
      = [some (.armed, some ⟨8, 1⟩, [.alarmState, .storeDone]), some (.disarmed, none, [.storeDone])] := by decide +kernel

theorem witness_StoresChangeOnlyByStoreOperations :
    (reads .storeCompletion storing (fun t => decide (t.store ≠ storing.store)) = some true)
      ∧ (reads (.scer 7 [31]) { fresh with latch := true } (fun t => decide (t.store ≠ fresh.store)) = some true)
      ∧ InFlightIncomplete storing ∧ ∃ t, step storing = .next t := by
  refine ⟨by decide +kernel, by decide +kernel, fun op h => ?_, _, rfl⟩
  cases h; rfl

/-- A part with the factory scene in slot 5 and an INCOMPLETE slot 6. -/
def sceneHeld : State :=
  { fresh with store := { fresh.store with
      slots := (fresh.store.slots.set 5 (.valid Scene.factory)).set 6 .incomplete } }

theorem witness_ScrcPutsTheSceneInForce :
    (Ready (inFlight (.scer 63)) .control ∧ (inFlight (.scer 63)).operation = some (.scer 63))
      ∧ (Ready sceneHeld .control ∧ sceneHeld.operation = none ∧ sceneHeld.slot 4 = .empty
        ∧ sceneHeld.slot 6 = .incomplete)
      ∧ (sceneHeld.slot 5 = .valid Scene.factory ∧ MapsValid sceneHeld
        ∧ ∀ z, (Scene.factory.zones.get z).trimMin ≤ (Scene.factory.zones.get z).trimMax) := by
  have area (k : Area) : sceneHeld.area k = AreaUnit.initial := Table.get_replicate (areaIndex k) _
  have slot (k : Fin 64) (scene : Scene) (h : sceneHeld.slot k = .valid scene) : scene = Scene.factory := by
    simp only [State.slot, sceneHeld, Table.get_set] at h
    split at h
    · cases h
    split at h
    · cases h; rfl
    · rw [show fresh.store.slots.get k = .empty from Table.get_replicate k _] at h; cases h
  refine ⟨⟨⟨⟨rfl, rfl⟩, rfl⟩, rfl⟩, ⟨⟨⟨rfl, rfl⟩, rfl⟩, rfl, by decide +kernel, by decide +kernel⟩, by decide +kernel, ⟨?_, ?_⟩, ?_⟩
  · intro x y h; simp only [area] at h; cases h
  · rintro scene (⟨k, h⟩ | ⟨k, h⟩) x y hxy
    · simp only [slot k scene h, Scene.factory, Table.get_replicate] at hxy; cases hxy
    · cases h
  · intro z; rw [Scene.factory, Table.get_replicate]; decide

/-- I1 and I2 HOLDING in area A, and in slot 5 the live setup with another priority for I1 and area B for I2. -/
def recalled : Scene :=
  let scene := (pair 5 6).liveSetup []
  let first := { scene.inputs.get 0 with priority := 1 }
  let second := { scene.inputs.get 1 with area := some .b }
  { scene with inputs := (scene.inputs.set 0 first).set 1 second }
def recalling : State := { pair 5 6 with store := { fresh.store with slots := fresh.store.slots.set 5 (.valid recalled) } }

theorem witness_ScrcPutsTheSceneInForce_lists :
    MapsValid recalling ∧ ListsSound recalling ∧ Ready recalling .control ∧ recalling.operation = none
      ∧ recalling.slot 5 = .valid recalled
      ∧ ((recalling.input 1).settings.area ≠ (recalled.inputs.get 1).area
        ∧ (recalling.input 0).settings = { recalled.inputs.get 0 with priority := 3 })
      ∧ (recalling.isEntry 0 = true ∧ recalling.isEntry 1 = true ∧ recalling.isEntry 2 = false)
      ∧ ∀ l ∈ allAreas, (recalling.area l).joinedInto = recalled.joins.get (areaIndex l)
          ∧ (recalling.area l).list.length ≤ (recalled.areas.get (areaIndex l)).maxOpen
          ∧ ∀ e ∈ (recalling.area l).list, e.retained = false := by
  have alone (k : Area) : (recalling.area k).joinedInto = none ∧ recalled.joins.get (areaIndex k) = none := by
    cases k <;> decide +kernel
  have slot (k : Fin 64) (scene : Scene) (h : recalling.slot k = .valid scene) : scene = recalled := by
    simp only [State.slot, recalling, Table.get_set] at h
    split at h
    · cases h; rfl
    · rw [show fresh.store.slots.get k = .empty from Table.get_replicate k _] at h; cases h
  refine ⟨⟨?_, ?_⟩, lists_sound (by decide +kernel), ⟨⟨rfl, rfl⟩, rfl⟩, rfl, Table.get_set_self .., by decide +kernel⟩
  · intro x y h; simp only [(alone x).1] at h; cases h
  · rintro scene (⟨k, h⟩ | ⟨k, h⟩) x y hxy
    · simp only [slot k scene h, (alone x).2] at hxy; cases hxy
    · cases h

set_option maxRecDepth 20000 in
/-- R121, R122: a recall withdraws an entry whose area changes, with LIST-CHANGE reason 4, and keeps the other with
its new priority. -/
theorem test_recall_withdraws_and_keeps :
    reads (.scrc 7 [5, 0, 0]) { recalling with queue := [], subscribed := [.listChange] } (fun t =>
        ((t.area .a).list.map fun e => (e.input, e.priority, e.hold), [(t.input 0).gate, (t.input 1).gate],
          t.queue.map fun n => (n.subject, n.value)))
      = some ([(0, 1, 5)], [.holding, .closed], [(2, 65536 + 1024 + 1)]) := by decide +kernel

set_option maxRecDepth 20000 in
/-- R42, R122: a recall leaves a reversal count as it stands, though it turns a ramping gate gain (log 24). -/
theorem test_recall_counts_no_reversal :
    reads (.scrc 7 [5, 0, 0]) (sceneHeld.setInput 0 { sceneHeld.input 0 with gain := -300, target := 0, reversals := 4 })
      (fun t => ((t.input 0).target, (t.input 0).reversals)) = some (-1000, 4) := by decide +kernel

theorem witness_ArmingGoesThroughPrimed :
    (Ready alarmWrite .control ∧ alarmWrite.alarm.state = .disarmed
        ∧ alarmWrite.operation = some (.alcf AlarmSettings.factory))
      ∧ (Ready fresh .control ∧ fresh.alarm.state = .disarmed ∧ fresh.operation = none)
      ∧ (Ready primed .control ∧ primed.alarm.state = .primed ∧ 0 < timeCodeMs primed.alarm.settings.code)
      ∧ timeCodeMs ({ primed.alarm.settings with code := 0 } : AlarmSettings).code = 0
      ∧ (Ready armed .control ∧ armed.alarm.state = .armed)
      ∧ ({ fresh.alarm with state := .fault } : AlarmUnit).state = .fault := by
  unfold Ready Listening; decide +kernel

theorem witness_SupervisionMessagesAlternate :
    (Ready fresh .safety ∧ fresh.alarm.state ≠ .armed)
      ∧ (Ready armed .safety ∧ armed.alarm.state = .armed ∧ armed.alarm.timer = some ⟨5, 1⟩)
      ∧ ({ armed.alarm with timer := some ⟨5, 2⟩ } : AlarmUnit).timer = some ⟨5, 2⟩
      ∧ (∀ phase ∈ [(0 : Byte), 2, 255], ¬ ((1 : Nat) = 1 ∧ phase = 1) ∧ ¬ ((1 : Nat) = 2 ∧ phase = 2)) := by
  unfold Ready Listening; decide +kernel

theorem witness_AlonAndAlofHoldTheOutputs :
    (Ready fresh .safety ∧ fresh.alarm.cause = .noCause)
      ∧ (Ready overridden .safety ∧ overridden.alarm.cause = .alarm ∧ overridden.alarm.cause ≠ .noCause) := by
  unfold Ready Listening; decide +kernel

/-- An ARMED part with a time remaining and an expiry action. -/
def armedFor (remaining : Nat) (action : ExpiryAction) (fallback : Option (Fin 64)) : State :=
  { sceneHeld with alarm := { armed.alarm with
      timer := some ⟨remaining, 1⟩, settings := { armed.alarm.settings with action, fallback } } }

theorem witness_SupervisionRunsOutIntoFault :
    (fresh.powered = true ∧ fresh.alarm.state ≠ .armed)
      ∧ (∀ remaining ∈ [0, 1, 2], (armedFor remaining .report none).alarm.state = .armed
        ∧ (armedFor remaining .report none).alarm.timer = some ⟨remaining, 1⟩)
      ∧ (armedFor 1 .report none).alarm.settings.action = .report
      ∧ ((armedFor 1 .fallback (some 4)).alarm.settings.action = .fallback
        ∧ (armedFor 1 .fallback (some 4)).alarm.settings.fallback = some 4
        ∧ (armedFor 1 .fallback (some 4)).slot 4 = .empty)
      ∧ ((armedFor 0 .fallback (some 5)).alarm.settings.fallback = some 5
        ∧ (armedFor 0 .fallback (some 5)).slot 5 = .valid Scene.factory)
      ∧ ((armedFor 0 .alert none).alarm.settings.action = .alert ∧ (armedFor 0 .alert none).alarm.cause = .noCause)
      ∧ ({ (armedFor 0 .alert none).alarm with cause := .alarm } : AlarmUnit).cause ≠ .noCause := by
  decide +kernel

theorem witness_OnlyAStartUpLeavesFault :
    (∃ t, exec .supervisionTick armed = .next t) ∧ ¬ StartsOver .supervisionTick ∧ armed.alarm.state = .armed
      ∧ ({ armed.alarm with state := .fault, cause := .expiry } : AlarmUnit).state = .fault
      ∧ ({ armed.alarm with state := .fault, cause := .expiry } : AlarmUnit).cause = .expiry :=
  ⟨⟨_, rfl⟩, id, rfl, rfl, rfl⟩

end Sys2Proof.Tests
end

section
/-! SUPPORT. What a step can be: a command of the queue taken, which is a request that is settled, bytes on a line, or
an event. A property that each of these keeps is kept by every step. -/

namespace Sys2Proof.Machine

/-! ### Requests refused by the checks they all make first (R156, R157) -/

section
variable {P : State → Prop} {s : State}

theorem fitting_keeps {fits : Bool} {answer : Answer} (h : P s) (k : P answer.state) :
    P (s.fitting fits answer).state := by
  unfold State.fitting
  split
  · exact k
  · exact h

theorem withTarget_keeps {α : Type} {target : Option α} {answer : α → Answer} (h : P s)
    (k : ∀ t, P (answer t).state) : P (s.withTarget target answer).state := by
  cases target with
  | none => exact h
  | some t => exact k t

theorem withValue_keeps {α : Type} {value : Option α} {answer : α → Answer} (h : P s)
    (k : ∀ v, P (answer v).state) : P (s.withValue value answer).state := by
  cases value with
  | none => exact h
  | some v => exact k v

end

/-! ### Requests and steps -/

/-- What the lines do not matter to, and the settling of every request keeps. -/
structure RequestsKeep (P : State → Prop) : Prop where
  line : ∀ s line l, P s → P (s.setLine line l)
  answered : ∀ s line kind body, P s → P (s.answerTo line kind body).state

namespace RequestsKeep

variable {P : State → Prop} (keep : RequestsKeep P)
include keep

theorem setReceiver {s : State} {line : Line} (r : Receiver) (h : P s) : P (s.setReceiver line r) :=
  keep.line _ _ _ h

theorem takeFrame {s : State} {line : Line} (frame : List Byte) (h : P s) : P (s.takeFrame line frame) :=
  keep.line _ _ _ (keep.answered _ _ _ _ h)

theorem feed {s : State} {line : Line} (bytes : List Byte) (h : P s) : P (s.feed line bytes) :=
  feed_keeps s line (fun _ r => keep.setReceiver r) (fun _ frame => keep.takeFrame frame) bytes h

/-- A frame whose answer keeps the property keeps it, however the line takes it. -/
theorem request {s t : State} {line : Line} {kind tag : Byte} {body : List Byte} {answer : State → Answer}
    (answered : P s → P (answer s).state) (h : P s) (e : s.request line kind tag body answer = .next t) : P t := by
  rcases request_cases s line kind tag body answer with c | c | c <;> cases c.symm.trans e
  · exact h
  · exact keep.line _ _ _ (answered h)
  · exact keep.feed _ h

/-- A frame of a kind that its line accepts. -/
theorem accepted {s t : State} (line : Line) (kind : Byte) {tag : Byte} {body : List Byte} (h : P s)
    (e : s.request line kind tag body (fun s => s.answerTo line kind body) = .next t) : P t :=
  keep.request (keep.answered s line kind body) h e

end RequestsKeep

/-- What an event of a part with power keeps is kept with or without power. -/
theorem whenPowered_keeps {P : State → Prop} {s t : State} (event : State → State) (h : P s)
    (e : s.whenPowered event = .next t) (kept : P (event s)) : P t := by
  unfold State.whenPowered at e
  cases e
  split
  · exact kept
  · exact h

/-- The events that are no frames and no bytes on a line keep a property. -/
structure EventsKeep (P : State → Prop) : Prop where
  inputFrame : ∀ s i samples, P s → P (s.inputFrame i samples)
  holdTick : ∀ s area, P s → P (s.holdTick area)
  holdExpiry : ∀ s i, P s → P (s.holdExpiry i)
  planFrameStep : ∀ s audio, P s → P (s.planFrameStep audio)
  moveEnd : ∀ s x, P s → P (s.setCrosspoint x (s.settleMove x (s.crosspoint x)))
  completeStore : ∀ s, P s → P s.completeStore
  panelSample : ∀ s n levelA levelB levelZ, P s → P (s.panelSample n levelA levelB levelZ)
  keySample : ∀ s level, P s → P (s.keySample level)
  supervisionTick : ∀ s, P s → P s.supervisionTick
  expireSupervision : ∀ s, P s → P s.expireSupervision
  startUp : ∀ s : State, P s.startUp
  cold : ∀ s : State, P (State.cold s.store s.pending false)
  frameBoundary : ∀ s, P s → P s.frameBoundary

/-- What the requests and the events keep, every command keeps. -/
theorem exec_keeps {P : State → Prop} (requests : RequestsKeep P) (events : EventsKeep P) {c : Instr} {s t : State}
    (h : P s) (e : exec c s = .next t) : P t := by
  have discard (line : Line) : P (s.discardPartial line) := by
    unfold State.discardPartial
    split
    · exact requests.setReceiver _ h
    · exact h
  cases c with
  | stat => exact requests.accepted .control 0x01 h e
  | notf => exact requests.accepted .control 0x02 h e
  | subs => exact requests.accepted .control 0x03 h e
  | inset => exact requests.accepted .control 0x08 h e
  | inget => exact requests.accepted .control 0x09 h e
  | znset => exact requests.accepted .control 0x0A h e
  | znget => exact requests.accepted .control 0x0B h e
  | zngeo => exact requests.accepted .control 0x0C h e
  | stset => exact requests.accepted .control 0x10 h e
  | stget => exact requests.accepted .control 0x11 h e
  | clim => exact requests.accepted .control 0x12 h e
  | send => exact requests.accepted .control 0x18 h e
  | xprd => exact requests.accepted .control 0x19 h e
  | snap => exact requests.accepted .control 0x1A h e
  | arset => exact requests.accepted .control 0x20 h e
  | olrd => exact requests.accepted .control 0x21 h e
  | join => exact requests.accepted .control 0x22 h e
  | splt => exact requests.accepted .control 0x23 h e
  | paus => exact requests.accepted .control 0x24 h e
  | rsum => exact requests.accepted .control 0x25 h e
  | pnset => exact requests.accepted .control 0x28 h e
  | pnget => exact requests.accepted .control 0x29 h e
  | scrc => exact requests.accepted .control 0x30 h e
  | scst => exact requests.accepted .control 0x31 h e
  | scer => exact requests.accepted .control 0x32 h e
  | scls => exact requests.accepted .control 0x33 h e
  | bldw => exact requests.accepted .control 0x34 h e
  | sten => exact requests.accepted .control 0x35 h e
  | stdi => exact requests.accepted .control 0x36 h e
  | prot => exact requests.accepted .control 0x37 h e
  | alcf => exact requests.accepted .control 0x38 h e
  | alrd => exact requests.accepted .control 0x39 h e
  | arm1 => exact requests.accepted .control 0x3A h e
  | arm2 => exact requests.accepted .control 0x3B h e
  | rsta => exact requests.accepted .control 0x3F h e
  | alon => exact requests.accepted .safety 0x50 h e
  | alof => exact requests.accepted .safety 0x51 h e
  | supv => exact requests.accepted .safety 0x52 h e
  | unknownKind line kind tag body =>
    exact requests.request (line := line) (kind := kind) (tag := tag) (body := body)
      (answer := fun s => s.refuse .unknownKind) id h e
  | checkFailed line bytes =>
    exact whenPowered_keeps (fun s => s.feed line (startByteValue :: bytes)) h e (requests.feed _ h)
  | frameDuringReply => exact whenPowered_keeps id h e h
  | framingError line => exact whenPowered_keeps (fun s => s.discardPartial line) h e (discard line)
  | partialFrameGap line => exact whenPowered_keeps (fun s => s.discardPartial line) h e (discard line)
  | inputFrame i samples =>
    exact whenPowered_keeps (fun s => s.inputFrame i samples) h e (events.inputFrame s i samples h)
  | holdTick area => exact whenPowered_keeps (fun s => s.holdTick area) h e (events.holdTick s area h)
  | holdExpiry i => exact whenPowered_keeps (fun s => s.holdExpiry i) h e (events.holdExpiry s i h)
  | planFrameStep audio =>
    exact whenPowered_keeps (fun s => s.planFrameStep audio) h e (events.planFrameStep s audio h)
  | moveEnd x =>
    exact whenPowered_keeps (fun s => s.setCrosspoint x (s.settleMove x (s.crosspoint x))) h e (events.moveEnd s x h)
  | storeCompletion => exact whenPowered_keeps (fun s => s.completeStore) h e (events.completeStore s h)
  | panelSample n levelA levelB levelZ =>
    exact whenPowered_keeps (fun s => s.panelSample n levelA levelB levelZ) h e
      (events.panelSample s n levelA levelB levelZ h)
  | keySwitchSample level => exact whenPowered_keeps (fun s => s.keySample level) h e (events.keySample s level h)
  | supervisionTick => exact whenPowered_keeps (fun s => s.supervisionTick) h e (events.supervisionTick s h)
  | supervisionExpiry =>
    refine whenPowered_keeps (fun s => if s.supervisionOver then s.expireSupervision else s) h e ?_
    split
    · exact events.expireSupervision s h
    · exact h
  | powerOn => cases e; exact events.startUp s
  | restart =>
    refine whenPowered_keeps (fun s => if s.restartDue then s.startUp else s) h e ?_
    split
    · exact events.startUp s
    · exact h
  | powerLoss => cases e; exact events.cold s
  | frameBoundary => exact whenPowered_keeps (fun s => s.frameBoundary) h e (events.frameBoundary s h)
  | replySent line =>
    exact whenPowered_keeps (fun s => s.setLine line { s.line line with reply := none }) h e (requests.line _ _ _ h)
  | startByte line following =>
    exact whenPowered_keeps (fun s => s.feed line (startByteValue :: following)) h e (requests.feed _ h)

/-- What the requests, the events and the queue of waiting commands keep, every step keeps. -/
theorem step_keeps {P : State → Prop} (requests : RequestsKeep P) (events : EventsKeep P)
    (queue : ∀ s rest, P s → P { s with pending := rest }) {s t : State} (h : P s) (e : step s = .next t) : P t := by
  unfold step at e
  split at e
  · cases e; exact h
  · exact exec_keeps requests events (queue _ _ h) e

end Sys2Proof.Machine
end

section
/-! SUPPORT. R2, R66, R78 to R88: what each change of a crosspoint record does to its soundness, and what each operation
over the part's state does to that of the plan. -/

namespace Sys2Proof.Machine

open Sys2Proof.Safety

/-! ### Gains (R2, R76, R78) -/

theorem gainWithin_inRange (sum : Int) : GainInRange (gainWithin sum) := by
  unfold gainWithin GainInRange
  split
  · omega
  · split <;> omega

theorem gainTargetOf_inRange (s : State) (x : Fin 384) (p : Crosspoint) : GainInRange (s.gainTargetOf x p) := by
  unfold State.gainTargetOf
  split
  · exact gainWithin_inRange _
  · exact .inl rfl

/-- R78: a ramp stays at the floor or within the range, between its ends. -/
theorem rampGain_inRange {slew : Nat} {active target : Int} (ha : GainInRange active) (ht : GainInRange target) :
    GainInRange (rampGain slew active target) := by
  unfold rampGain
  unfold GainInRange at *
  split_ifs <;> omega

/-! ### One record -/

/-- R2, R66: the gains and the delays of one record are sound. -/
def RecordSound (p : Crosspoint) : Prop :=
  GainInRange p.targetGain ∧ GainInRange p.activeGain ∧ DelaysConsistent p

theorem planRecordsSound_iff {s : State} : PlanRecordsSound s ↔ ∀ x, RecordSound (s.crosspoint x) :=
  ⟨fun ⟨gains, delays⟩ x => ⟨(gains x).1, (gains x).2, delays x⟩,
    fun h => ⟨fun x => ⟨(h x).1, (h x).2.1⟩, fun x => (h x).2.2⟩⟩

/-- The delays of a record that has no move. -/
theorem delaysConsistent_steady {p : Crosspoint} (steady : p.move = none) :
    DelaysConsistent p ↔ p.targetDelay ≤ 16383 ∧ p.pendingDelay = none ∧ p.activeDelay = p.targetDelay := by
  unfold DelaysConsistent
  rw [steady]
  constructor
  · exact fun ⟨ht, _, hp, ha⟩ => ⟨ht, hp, ha⟩
  · exact fun ⟨ht, hp, ha⟩ => ⟨ht, ha ▸ ht, hp, ha⟩

/-- The delays of a record that moves. -/
theorem delaysConsistent_moving {p : Crosspoint} {m : Move} (moving : p.move = some m) :
    DelaysConsistent p ↔ p.targetDelay ≤ 16383 ∧ p.activeDelay ≤ 16383 ∧ m.dest ≤ 16383 ∧ m.elapsed < m.length
      ∧ ((p.pendingDelay = none ∧ p.targetDelay = m.dest)
        ∨ (p.pendingDelay = some p.targetDelay ∧ p.targetDelay ≠ m.dest)) := by
  unfold DelaysConsistent
  rw [moving]
  cases hp : p.pendingDelay with
  | none => simp
  | some q =>
    simp only [reduceCtorEq, false_and, false_or, Option.some.injEq]
    grind

/-- R81, R82: a target within the delay memory leaves consistent delays where it arrives: it needs a STEADY record to
be within the memory, and a MOVING one to be consistent. -/
theorem arrive_consistent {p : Crosspoint} (inaudible : Bool) (frames : Nat) {target : Nat} (h : target ≤ 16383)
    (active : p.activeDelay ≤ 16383) (steady : p.move = none → p.pendingDelay = none)
    (moving : ∀ m, p.move = some m → m.dest ≤ 16383 ∧ m.elapsed < m.length) :
    DelaysConsistent (p.arrive inaudible frames target) := by
  cases hm : p.move with
  | none =>
    have hp := steady hm
    simp only [Crosspoint.arrive, hm]
    split
    · next same => exact (delaysConsistent_steady rfl).2 ⟨h, hp, same.symm⟩
    · split
      · exact (delaysConsistent_steady rfl).2 ⟨h, hp, rfl⟩
      · next starts =>
        have lasts : 0 < frames := by omega
        exact (delaysConsistent_moving rfl).2 ⟨h, active, h, lasts, .inl ⟨hp, rfl⟩⟩
  | some m =>
    obtain ⟨dest, running⟩ := moving m hm
    simp only [Crosspoint.arrive, hm]
    refine (delaysConsistent_moving rfl).2 ⟨h, active, dest, running, ?_⟩
    split
    · next same => exact .inl ⟨rfl, same⟩
    · next other => exact .inr ⟨rfl, other⟩

namespace RecordSound

variable {p : Crosspoint}

theorem live_clamp_send (h : RecordSound p) (live clamp : Bool) (send : Int) :
    RecordSound { p with live, clamp, send } := h

theorem targetGain (h : RecordSound p) {g : Int} (hg : GainInRange g) : RecordSound { p with targetGain := g } :=
  ⟨hg, h.2⟩

theorem activeGain (h : RecordSound p) {g : Int} (hg : GainInRange g) : RecordSound { p with activeGain := g } :=
  ⟨h.1, hg, h.2.2⟩

theorem arrive (h : RecordSound p) (inaudible : Bool) (frames : Nat) {target : Nat} (ht : target ≤ 16383) :
    RecordSound (p.arrive inaudible frames target) := by
  obtain ⟨hg, ha, hd⟩ := h
  refine ⟨by simpa using hg, by simpa using ha, arrive_consistent _ _ ht hd.2.1 (fun hm => ?_) fun m hm => ?_⟩
  · exact ((delaysConsistent_steady hm).1 hd).2.1
  · obtain ⟨_, _, dest, running, _⟩ := (delaysConsistent_moving hm).1 hd
    exact ⟨dest, running⟩

/-- R86: a snapped record stands at its target. -/
theorem snap (h : RecordSound p) : RecordSound p.snap :=
  ⟨h.1, h.2.1, (delaysConsistent_steady rfl).2 ⟨h.2.2.1, rfl, rfl⟩⟩

theorem retimed (h : RecordSound p) (s : State) (x : Fin 384) : RecordSound (s.retimed x p) :=
  (h.arrive (s.inaudible x p) (s.moveFrames (zoneOf x)) (Nat.min_le_right _ _)).live_clamp_send
    _ (decide (16383 < s.delaySumOf x)) _

/-- R84: the end of a move leaves consistent delays, also of a move that has run its length. -/
theorem endMove (gains : GainInRange p.targetGain ∧ GainInRange p.activeGain) {m : Move} (moving : p.move = some m)
    (dest : m.dest ≤ 16383)
    (pending : (p.pendingDelay = none ∧ p.targetDelay = m.dest)
      ∨ (p.pendingDelay = some p.targetDelay ∧ p.targetDelay ≤ 16383))
    (inaudible : Bool) (frames : Nat) : RecordSound (p.endMove inaudible frames) := by
  simp only [Crosspoint.endMove, moving]
  rcases pending with ⟨hp, ht⟩ | ⟨hp, ht⟩ <;> simp only [hp]
  · exact ⟨gains.1, gains.2, (delaysConsistent_steady rfl).2 ⟨ht ▸ dest, rfl, ht.symm⟩⟩
  · exact ⟨by simpa using gains.1, by simpa using gains.2,
      arrive_consistent _ _ ht dest (fun _ => rfl) (fun _ hm => nomatch hm)⟩

/-- R83, R84: a sound record stays sound whatever its move's elapsed count becomes, since a move that is then over
ends. -/
theorem settled (h : RecordSound p) {g : Int} (hg : GainInRange g) (elapsed : Move → Nat) (s : State) (x : Fin 384) :
    RecordSound (s.settleMove x
      { p with activeGain := g, move := p.move.map fun m => { m with elapsed := elapsed m } }) := by
  obtain ⟨ht, _, hd⟩ := h
  unfold State.settleMove Crosspoint.moveOver
  cases hm : p.move with
  | none =>
    obtain ⟨target, pending, stands⟩ := (delaysConsistent_steady hm).1 hd
    exact ⟨ht, hg, (delaysConsistent_steady rfl).2 ⟨target, pending, stands⟩⟩
  | some m =>
    obtain ⟨target, active, dest, _, pending⟩ := (delaysConsistent_moving hm).1 hd
    split
    · refine endMove (m := { m with elapsed := elapsed m }) ?_ rfl dest ?_ _ _
      · exact ⟨ht, hg⟩
      · exact pending.imp_right fun ⟨hp, _⟩ => ⟨hp, target⟩
    · next runs =>
      have running : elapsed m < m.length := by simpa using runs
      exact ⟨ht, hg, (delaysConsistent_moving (m := { m with elapsed := elapsed m }) rfl).2
        ⟨target, active, dest, running, pending⟩⟩

/-- R84: a MOVE_END. -/
theorem settleMove (h : RecordSound p) (s : State) (x : Fin 384) : RecordSound (s.settleMove x p) := by
  have same := h.settled h.2.1 Move.elapsed s x
  rwa [show (p.move.map fun m => { m with elapsed := m.elapsed }) = p.move from by cases p.move <;> rfl] at same

/-- R78, R83, R84: a plan step of one crosspoint. -/
theorem stepped (h : RecordSound p) (s : State) (x : Fin 384) : RecordSound (s.stepped x p) :=
  h.settled (rampGain_inRange h.2.1 h.1) (fun m => m.elapsed + 1) s x

theorem initial {delay : Nat} (h : delay ≤ 16383) : RecordSound (Crosspoint.initial delay) :=
  ⟨.inl rfl, .inl rfl, (delaysConsistent_steady rfl).2 ⟨h, rfl, rfl⟩⟩

end RecordSound

end Sys2Proof.Machine
end

section
/-! SUPPORT. R2, R66: every operation over the part's state, from the plan's own to recalls, the start-up and the alarm,
keeps the plan's records sound. -/

namespace Sys2Proof.Machine

open Sys2Proof.Safety

/-- The plan is sound in `t` if it is in `s`. -/
structure KeepsPlan (s t : State) : Prop where
  sound : PlanRecordsSound s → PlanRecordsSound t

section
variable {s t u : State}

theorem KeepsPlan.refl (s : State) : KeepsPlan s s := ⟨id⟩

theorem KeepsPlan.trans (h : KeepsPlan s t) (k : KeepsPlan t u) : KeepsPlan s u := ⟨k.sound ∘ h.sound⟩

/-- An operation that leaves the crosspoint records alone keeps the plan sound. -/
theorem KeepsPlan.of_same (h : t.crosspoints = s.crosspoints) : KeepsPlan s t := by
  refine ⟨fun sound => ?_⟩
  rw [planRecordsSound_iff] at sound ⊢
  unfold State.crosspoint at sound ⊢
  rwa [h]

theorem KeepsPlan.of_source (k : KeepsPlan t u) (h : t.crosspoints = s.crosspoints) : KeepsPlan s u :=
  (KeepsPlan.of_same h).trans k

/-- An operation that keeps each record sound keeps the plan sound. -/
theorem KeepsPlan.of_records (h : ∀ x, RecordSound (s.crosspoint x) → RecordSound (t.crosspoint x)) :
    KeepsPlan s t :=
  ⟨fun sound => planRecordsSound_iff.2 fun x => h x (planRecordsSound_iff.1 sound x)⟩

theorem OnlyNotices.keepsPlan (h : OnlyNotices s t) : KeepsPlan s t := by
  obtain ⟨_, _, rfl⟩ := h
  exact .of_same rfl

theorem OnlyLists.keepsPlan (h : OnlyLists s t) : KeepsPlan s t := by
  obtain ⟨_, _, _, _, rfl⟩ := h
  exact .of_same rfl

theorem KeepsPlan.ite {c : Prop} [Decidable c] (h : KeepsPlan s t) (k : KeepsPlan s u) :
    KeepsPlan s (if c then t else u) := by
  split
  · exact h
  · exact k

end

variable (s : State)

theorem raise_keepsPlan (k : NoticeKind) (n : Nat) (v : Int) : KeepsPlan s (s.raise k n v) :=
  (raise_onlyNotices s k n v).keepsPlan

theorem updateCrosspoints_keepsPlan (which : Fin 384 → Bool) {f : Fin 384 → Crosspoint → Crosspoint}
    (h : ∀ x p, RecordSound p → RecordSound (f x p)) : KeepsPlan s (s.updateCrosspoints which f) := by
  refine .of_records fun x sound => ?_
  rw [updateCrosspoints_crosspoint]
  split
  · exact h x _ sound
  · exact sound

/-! ### The plan (R68 to R88) -/

theorem recompose_keepsPlan (which : Fin 384 → Bool) : KeepsPlan s (s.recompose which) :=
  updateCrosspoints_keepsPlan s which fun x p h => h.targetGain (gainTargetOf_inRange s x p)

theorem relive_keepsPlan (which : Fin 384 → Bool) : KeepsPlan s (s.relive which) :=
  updateCrosspoints_keepsPlan s which fun _ _ h => h.live_clamp_send _ _ _

theorem reevaluate_keepsPlan (which : Fin 384 → Bool) : KeepsPlan s (s.reevaluate which) :=
  (relive_keepsPlan s which).trans (recompose_keepsPlan _ which)

theorem retime_keepsPlan (which : Fin 384 → Bool) : KeepsPlan s (s.retime which) :=
  (updateCrosspoints_keepsPlan s which fun x _ h => h.retimed s x).trans
    (foldl_touches OnlyNotices.refl OnlyNotices.trans _ raiseClamped_onlyNotices _ _).keepsPlan

theorem snapAll_keepsPlan : KeepsPlan s s.snapAll :=
  updateCrosspoints_keepsPlan s _ fun _ _ h => h.snap

theorem snapToTargets_keepsPlan (which : Fin 384 → Bool) : KeepsPlan s (s.snapToTargets which) :=
  updateCrosspoints_keepsPlan s which fun _ _ h => h.snap.activeGain h.1

theorem floorReset_keepsPlan : KeepsPlan s s.floorReset :=
  updateCrosspoints_keepsPlan s _ fun _ _ h => h.snap.activeGain (.inl rfl)

theorem planFrameStep_keepsPlan (audio : AudioFrame) : KeepsPlan s (s.planFrameStep audio) := by
  refine .of_records fun x sound => ?_
  rw [show (s.planFrameStep audio).crosspoint x = s.stepped x (s.crosspoint x) from Table.get_mapIdx ..]
  exact sound.stepped s x

theorem moveEnd_keepsPlan (x : Fin 384) : KeepsPlan s (s.setCrosspoint x (s.settleMove x (s.crosspoint x))) := by
  refine .of_records fun y sound => ?_
  rw [setCrosspoint_crosspoint]
  split
  · next same => exact same ▸ sound.settleMove s y
  · exact sound

/-! ### The open lists and the area map -/

theorem updateNom_keepsPlan (k : Area) : KeepsPlan s (s.updateNom k) :=
  .ite (.refl s) ((setNom_onlyLists s k).keepsPlan.trans (recompose_keepsPlan ..))

theorem settleRequest_keepsPlan (k : Area) (i : Fin 24) (p : Nat) (l : Int) :
    KeepsPlan s (s.settleRequest k i p l) := by
  refine .ite (setInput_onlyLists ..).keepsPlan ((giveWay_onlyLists s k).keepsPlan.trans
    (.ite ((appendEntry_onlyLists ..).keepsPlan.trans (updateNom_keepsPlan ..)) ?_))
  split
  · exact (setInput_onlyLists ..).keepsPlan
  · exact ((dropAndRetarget_onlyLists ..).trans (appendEntry_onlyLists ..)).keepsPlan.trans (updateNom_keepsPlan ..)

theorem requestAdmission_keepsPlan (i : Fin 24) : KeepsPlan s (s.requestAdmission i) := by
  unfold State.requestAdmission
  split
  · exact (setInput_onlyLists ..).keepsPlan
  · exact settleRequest_keepsPlan ..

theorem quietFrame_keepsPlan (i : Fin 24) : KeepsPlan s (s.quietFrame i) := by
  unfold State.quietFrame
  split
  · exact (setInput_onlyLists ..).keepsPlan
  · have held (k : Area) (f : Entry → Entry) : KeepsPlan s ((s.updateEntry k i f).setGate i .holding) :=
      ((setArea_onlyLists ..).trans (setInput_onlyLists ..)).keepsPlan
    exact .ite ((held ..).trans ((expireHold_onlyLists ..).keepsPlan.trans (updateNom_keepsPlan ..))) (held ..)

theorem qualify_keepsPlan (i : Fin 24) (n : Nat) : KeepsPlan s (s.qualify i n) :=
  (setInput_onlyLists ..).keepsPlan.trans (.ite (requestAdmission_keepsPlan ..) (.refl _))

theorem gateAct_keepsPlan (i : Fin 24) (b : Band) : KeepsPlan s (s.gateAct i b) := by
  unfold State.gateAct
  split
  · exact qualify_keepsPlan ..
  · exact .refl s
  · exact qualify_keepsPlan ..
  · exact (setInput_onlyLists ..).keepsPlan
  · exact requestAdmission_keepsPlan ..
  · exact (setInput_onlyLists ..).keepsPlan
  · exact quietFrame_keepsPlan ..
  · exact .refl s
  · exact (loudFrame_onlyLists ..).keepsPlan
  · exact .refl s

theorem inputFrame_keepsPlan (i : Fin 24) (samples : List Int) : KeepsPlan s (s.inputFrame i samples) := by
  have heard := (setInput_onlyLists s i ((s.input i).hear samples)).keepsPlan
  have gated (t : State) : KeepsPlan t (t.gateStage i) := .ite (gateAct_keepsPlan ..) (.refl _)
  exact KeepsPlan.trans (.ite heard (heard.trans ((gated _).trans (trackStage_onlyLists ..).keepsPlan)))
    (setInput_onlyLists ..).keepsPlan

theorem holdTick_keepsPlan (k : Area) : KeepsPlan s (s.holdTick k) :=
  .ite (((setArea_onlyLists s k _).trans (foldl_touches OnlyLists.refl OnlyLists.trans _
    (fun s i => expireHold_onlyLists s k i) _ _)).keepsPlan.trans (updateNom_keepsPlan ..)) (.refl s)

theorem holdExpiry_keepsPlan (i : Fin 24) : KeepsPlan s (s.holdExpiry i) := by
  unfold State.holdExpiry
  split
  · exact .refl s
  · exact .ite ((expireHold_onlyLists ..).keepsPlan.trans (updateNom_keepsPlan ..)) (.refl s)

theorem afterMapChange_keepsPlan (which : Fin 24 → Bool) : KeepsPlan s (s.afterMapChange which) :=
  (retarget_onlyLists s which).keepsPlan.trans (reevaluate_keepsPlan ..)

theorem joinArea_keepsPlan (x y : Area) : KeepsPlan s (s.joinArea x y) :=
  (((joinLists_onlyLists s x y).keepsPlan.trans (updateNom_keepsPlan ..)).trans (updateNom_keepsPlan ..)).trans
    (afterMapChange_keepsPlan ..)

theorem splitArea_keepsPlan (x y : Area) : KeepsPlan s (s.splitArea x y) :=
  (((splitLists_onlyLists s x y).keepsPlan.trans (updateNom_keepsPlan ..)).trans (updateNom_keepsPlan ..)).trans
    (afterMapChange_keepsPlan ..)

theorem changeAreaSettings_keepsPlan (k : Area) (new : AreaSettings) : KeepsPlan s (s.changeAreaSettings k new) := by
  have put := (setArea_onlyLists s k { s.area k with settings := new }).keepsPlan
  exact .ite (((put.trans (applySettings_onlyLists ..).keepsPlan).trans (updateNom_keepsPlan ..)).trans
    (retarget_onlyLists ..).keepsPlan) put

theorem changePause_keepsPlan (k : Area) (paused : Bool) : KeepsPlan s (s.changePause k paused) := by
  have put := (setArea_onlyLists s k { s.area k with paused }).keepsPlan
  exact .ite (.refl s) (KeepsPlan.trans
    (.ite (put.trans ((releaseRetained_onlyLists ..).keepsPlan.trans (updateNom_keepsPlan ..))) put)
    (retarget_onlyLists ..).keepsPlan)

/-! ### Inputs, zones and geometry -/

theorem putInputSettings_keepsPlan (i : Fin 24) (new : InputSettings) : KeepsPlan s (s.putInputSettings i new) := by
  refine .ite ?_ (setInput_onlyLists ..).keepsPlan
  have put := ((withdraw_onlyLists s i).trans
    (setInput_onlyLists _ i { (s.withdraw i).input i with settings := new })).keepsPlan
  dsimp only
  split
  · exact put
  · exact put.trans (updateNom_keepsPlan ..)

theorem putPriority_keepsPlan (i : Fin 24) : KeepsPlan s (s.putPriority i) := by
  unfold State.putPriority
  split
  · exact .refl s
  · exact (setArea_onlyLists ..).keepsPlan

theorem changeInput_keepsPlan (i : Fin 24) (new : InputSettings) : KeepsPlan s (s.changeInput i new) := by
  unfold State.changeInput
  dsimp only
  have prioritised {c : Prop} [Decidable c] (t : State) : KeepsPlan t (if c then t else t.putPriority i) :=
    .ite (.refl t) (putPriority_keepsPlan ..)
  have placed {c : Prop} [Decidable c] (t : State) : KeepsPlan t (if c then t else t.retime (ofInput i)) :=
    .ite (.refl t) (retime_keepsPlan ..)
  have evaluated {c : Prop} [Decidable c] (t : State) : KeepsPlan t (if c then t else t.reevaluate (ofInput i)) :=
    .ite (.refl t) (reevaluate_keepsPlan ..)
  exact .ite (.refl s) (((((putInputSettings_keepsPlan s i new).trans (prioritised _)).trans (placed _)).trans
    (retarget_onlyLists ..).keepsPlan).trans (evaluated _))

theorem changeStation_keepsPlan (n : Fin 32) (new : Station) : KeepsPlan s (s.changeStation n new) := by
  have put : KeepsPlan s { s with stations := s.stations.set n new } := .of_same rfl
  exact .ite (put.trans (retime_keepsPlan ..)) put

theorem changeZoneGeometry_keepsPlan (z : Fin 16) (new : ZoneGeometry) :
    KeepsPlan s (s.changeZoneGeometry z new) := by
  have put : KeepsPlan s (s.setZone z { s.zone z with geometry := new }) := .of_same rfl
  exact .ite (put.trans (retime_keepsPlan ..)) put

theorem takeReport_keepsPlan (report : Int) : KeepsPlan s (s.takeReport report) := by
  refine .ite ?_ (.of_same rfl)
  have used : KeepsPlan s { s with reported := some report, used := report } := .of_same rfl
  exact (used.trans (raise_keepsPlan ..)).trans (retime_keepsPlan ..)

theorem takeClimate_keepsPlan (parts : ClimateParts) : KeepsPlan s (s.takeClimate parts) := by
  have set : KeepsPlan s (match parts.settings with
      | none => s
      | some p => s.takeClimateSettings p.1 p.2) := by
    split
    · exact .refl s
    · exact .of_same rfl
  unfold State.takeClimate
  dsimp only
  split
  · exact set
  · exact set.trans (takeReport_keepsPlan ..)

theorem changeZone_keepsPlan (z : Fin 16) (new : ZoneScene) : KeepsPlan s (s.changeZone z new) := by
  have put : KeepsPlan s (s.setZone z
      { s.zone z with scene := new, trim := limitInt new.trimMin new.trimMax (s.zone z).trim }) := .of_same rfl
  exact KeepsPlan.trans (.ite put (put.trans (relive_keepsPlan ..))) (recompose_keepsPlan ..)

theorem changeSends_keepsPlan (i : Fin 24) (first : Fin 16) (values : List Int) :
    KeepsPlan s (s.changeSends i first values) :=
  (updateCrosspoints_keepsPlan s _ fun _ _ h => h.live_clamp_send _ _ _).trans (reevaluate_keepsPlan ..)

/-! ### Panels -/

theorem panelTrim_keepsPlan (n : Fin 8) (z : Fin 16) (new : Int) : KeepsPlan s (s.panelTrim n z new) := by
  have put : KeepsPlan s (s.setZone z { s.zone z with trim := new }) := .of_same rfl
  exact .ite (.refl s) ((put.trans (recompose_keepsPlan ..)).trans (.ite (raise_keepsPlan ..) (.refl _)))

theorem takeDetent_keepsPlan (n : Fin 8) (d : Detent) : KeepsPlan s (s.takeDetent n d) := by
  unfold State.takeDetent
  split
  · exact .refl s
  · have limited {c : Prop} [Decidable c] (p : Panel) : KeepsPlan s (if c then s else s.setPanel n p) :=
      .ite (.refl s) (.of_same rfl)
    exact (limited _).trans (panelTrim_keepsPlan ..)

theorem takePush_keepsPlan (n : Fin 8) : KeepsPlan s (s.takePush n) := by
  unfold State.takePush
  split
  · exact .refl s
  · exact (panelTrim_keepsPlan ..).of_source rfl

theorem illegalTransition_keepsPlan (n : Fin 8) : KeepsPlan s (s.illegalTransition n) := by
  have put (p : Panel) : KeepsPlan s (s.setPanel n p) := .of_same rfl
  exact .ite (put _) ((put _).trans (raise_keepsPlan ..))

theorem takeEdge_keepsPlan (n : Fin 8) (step : Int) : KeepsPlan s (s.takeEdge n step) := by
  unfold State.takeEdge
  dsimp only
  split
  · exact .of_same rfl
  · exact (takeDetent_keepsPlan ..).of_source rfl

theorem decodeLines_keepsPlan (n : Fin 8) : KeepsPlan s (s.decodeLines n) := by
  have put (p : Panel) : KeepsPlan s (s.setPanel n p) := .of_same rfl
  unfold State.decodeLines
  dsimp only
  split
  · split
    · exact put _
    · split
      · exact (put _).trans (takeEdge_keepsPlan ..)
      · exact (put _).trans (illegalTransition_keepsPlan ..)
      · exact put _
  · exact .refl s

theorem panelSample_keepsPlan (n : Fin 8) (levelA levelB levelZ : Bool) :
    KeepsPlan s (s.panelSample n levelA levelB levelZ) := by
  have filtered (p : Panel) : KeepsPlan s (s.setPanel n p) := .of_same rfl
  have decoded {c : Prop} [Decidable c] (t : State) : KeepsPlan t (if c then t.decodeLines n else t) :=
    .ite (decodeLines_keepsPlan ..) (.refl t)
  have pushed {c : Prop} [Decidable c] (t : State) : KeepsPlan t (if c then t.takePush n else t) :=
    .ite (takePush_keepsPlan ..) (.refl t)
  exact ((filtered _).trans (decoded _)).trans (pushed _)

/-! ### Recalls and start-up (R121, R135) -/

theorem putAreas_crosspoints (scene : Scene) : (s.putAreas scene).crosspoints = s.crosspoints := rfl

theorem putTrims_crosspoints (keep : Bool) : (s.putTrims keep).crosspoints = s.crosspoints := rfl

theorem putFields_keepsPlan (scene : Scene) : KeepsPlan s (s.putFields scene) := by
  refine .of_records fun x sound => ?_
  rw [show (s.putFields scene).crosspoint x = { s.crosspoint x with send := scene.sends.get x } from
    Table.get_mapIdx ..]
  exact sound.live_clamp_send _ _ _

theorem putScene_keepsPlan (scene : Scene) : KeepsPlan s (s.putScene scene) := by
  unfold State.putScene
  dsimp only
  generalize allAreas = areas
  have withdrawn := foldl_touches OnlyLists.refl OnlyLists.trans _
    (fun t i => withdrawFor_onlyLists t scene i) (List.finRange 24) s
  refine withdrawn.keepsPlan.trans ((putFields_keepsPlan _ scene).trans
    (KeepsPlan.of_source (OnlyLists.keepsPlan ?_) (putAreas_crosspoints _ scene)))
  exact ((changeMap_onlyLists ..).trans (foldl_touches OnlyLists.refl OnlyLists.trans _
    (fun t k => areaConsequence_onlyLists t _ k) areas _)).trans
      (foldl_touches OnlyLists.refl OnlyLists.trans _ setNom_onlyLists areas _)

theorem reckon_keepsPlan : KeepsPlan s s.reckon :=
  ((retime_keepsPlan s _).trans (retargetStanding_onlyLists _).keepsPlan).trans (reevaluate_keepsPlan ..)

theorem recall_keepsPlan (k : Fin 64) (scene : Scene) (mode : RecallMode) (keep : Bool) (cause : RecallCause) :
    KeepsPlan s (s.recall k scene mode keep cause) := by
  have put : KeepsPlan s (((s.putScene scene).putTrims keep).reckon) :=
    (putScene_keepsPlan s scene).trans ((reckon_keepsPlan _).of_source (putTrims_crosspoints ..))
  refine KeepsPlan.trans ?_ (raise_keepsPlan ..)
  cases mode with
  | smooth => exact put
  | snap => exact put.trans (snapAll_keepsPlan _)

theorem startSetup_keepsPlan : KeepsPlan s s.startSetup := by
  unfold State.startSetup
  split
  · exact ((recall_keepsPlan ..).trans (snapAll_keepsPlan _)).trans (raise_keepsPlan ..)
  · exact (((reckon_keepsPlan _).trans (snapAll_keepsPlan _)).trans (raise_keepsPlan ..)).of_source
      (putTrims_crosspoints ..)

theorem raiseIncomplete_keepsPlan {α : Type} (record : Stored α) (subject : Nat) :
    KeepsPlan s (s.raiseIncomplete record subject) := by
  cases record with
  | valid => exact .refl s
  | incomplete => exact raise_keepsPlan ..

theorem loadStores_keepsPlan : KeepsPlan s s.loadStores :=
  (((raiseIncomplete_keepsPlan ..).trans (raiseIncomplete_keepsPlan ..)).trans
    (raiseIncomplete_keepsPlan ..)).trans (.of_same rfl)

theorem cold_planRecordsSound (store : Store) (pending : List Instr) (powered : Bool) :
    PlanRecordsSound (State.cold store pending powered) := by
  refine planRecordsSound_iff.2 fun x => ?_
  rw [show (State.cold store pending powered).crosspoint x = Crosspoint.initial 576 from Table.get_replicate ..]
  exact RecordSound.initial (by decide)

theorem startUp_planRecordsSound : PlanRecordsSound s.startUp :=
  ((loadStores_keepsPlan _).trans (startSetup_keepsPlan _)).sound (cold_planRecordsSound ..)

/-! ### The alarm -/

theorem enterAlarmState_keepsPlan (st : AlarmState) : KeepsPlan s (s.enterAlarmState st) :=
  (raise_keepsPlan ..).of_source rfl

theorem enterFault_keepsPlan (cause : FaultCause) (action : ActionTaken) : KeepsPlan s (s.enterFault cause action) :=
  ((enterAlarmState_keepsPlan ..).trans (raise_keepsPlan ..)).of_source rfl

theorem takeOverride_keepsPlan (cause : OverrideCause) : KeepsPlan s (s.takeOverride cause) := by
  have held : KeepsPlan s (if s.alarm.cause = .noCause then s.setSelectors .alarmSource else s) :=
    .ite (.of_same rfl) (.refl s)
  exact held.trans ((raise_keepsPlan ..).of_source rfl)

theorem endOverride_keepsPlan : KeepsPlan s s.endOverride := by
  have ended : KeepsPlan s (s.setCause .noCause) := .of_same rfl
  exact (ended.trans (floorReset_keepsPlan _)).trans ((raise_keepsPlan ..).of_source rfl)

theorem expireSupervision_keepsPlan : KeepsPlan s s.expireSupervision := by
  unfold State.expireSupervision
  split
  · exact enterFault_keepsPlan ..
  · exact (enterFault_keepsPlan ..).trans (takeOverride_keepsPlan ..)
  · split
    · exact enterFault_keepsPlan ..
    · exact (enterFault_keepsPlan ..).trans (recall_keepsPlan ..)

theorem enterArmed_keepsPlan : KeepsPlan s s.enterArmed := by
  have loaded : KeepsPlan s (s.loadTimer 1) := .of_same rfl
  have armed := loaded.trans (enterAlarmState_keepsPlan _ .armed)
  exact .ite (armed.trans (expireSupervision_keepsPlan _)) armed

theorem decideAutoArm_keepsPlan : KeepsPlan s s.decideAutoArm := .ite (enterArmed_keepsPlan s) (.refl s)

theorem firstKeyAcceptance_keepsPlan : KeepsPlan s s.firstKeyAcceptance :=
  .ite (.of_same rfl) (decideAutoArm_keepsPlan s)

theorem keySample_keepsPlan (level : Bool) : KeepsPlan s (s.keySample level) := by
  unfold State.keySample
  dsimp only
  split
  · split
    · exact (firstKeyAcceptance_keepsPlan _).of_source rfl
    · exact (raise_keepsPlan ..).of_source rfl
  · exact .of_same rfl

theorem supervisionTick_keepsPlan : KeepsPlan s s.supervisionTick := by
  unfold State.supervisionTick
  split
  · exact .ite ((expireSupervision_keepsPlan _).of_source rfl) (.of_same rfl)
  · exact .refl s

theorem finishOperation_keepsPlan (op : StoreOp) : KeepsPlan s (s.finishOperation op) := by
  cases op <;> exact .of_same rfl

theorem takeDeferredDecision_keepsPlan : KeepsPlan s s.takeDeferredDecision :=
  .ite ((decideAutoArm_keepsPlan _).of_source rfl) (.refl s)

theorem completeStore_keepsPlan : KeepsPlan s s.completeStore := by
  unfold State.completeStore
  split
  · exact .refl s
  · refine KeepsPlan.trans ?_ (raise_keepsPlan ..)
    split
    · exact (finishOperation_keepsPlan ..).trans (takeDeferredDecision_keepsPlan _)
    · exact finishOperation_keepsPlan ..

end Sys2Proof.Machine
end

section
/-! PROOFS. O38: the plan's records stay sound. Every request of either line keeps them, and so does every event. -/

namespace Sys2Proof.Machine

open Sys2Proof.Safety

/-! ### Requests (R155 to R157) -/

/-- The settling of an answer keeps the plan sound. -/
structure AnswerKeepsPlan (s : State) (a : Answer) : Prop where
  keeps : KeepsPlan s a.state

section
variable {s : State}

theorem AnswerKeepsPlan.of_same {a : Answer} (h : a.state.crosspoints = s.crosspoints) : AnswerKeepsPlan s a :=
  ⟨.of_same h⟩

theorem refuse_keepsPlan (r : Result) : AnswerKeepsPlan s (s.refuse r) := .of_same rfl

theorem AnswerKeepsPlan.ite {c : Prop} [Decidable c] {a b : Answer} (h : AnswerKeepsPlan s a)
    (k : AnswerKeepsPlan s b) : AnswerKeepsPlan s (if c then a else b) := by
  split
  · exact h
  · exact k

theorem AnswerKeepsPlan.fitting {fits : Bool} {a : Answer} (h : AnswerKeepsPlan s a) :
    AnswerKeepsPlan s (s.fitting fits a) :=
  ⟨fitting_keeps (P := KeepsPlan s) (.refl s) h.keeps⟩

theorem AnswerKeepsPlan.withTarget {α : Type} {target : Option α} {a : α → Answer}
    (h : ∀ t, AnswerKeepsPlan s (a t)) : AnswerKeepsPlan s (s.withTarget target a) :=
  ⟨withTarget_keeps (P := KeepsPlan s) (.refl s) fun t => (h t).keeps⟩

theorem AnswerKeepsPlan.withValue {α : Type} {value : Option α} {a : α → Answer}
    (h : ∀ v, AnswerKeepsPlan s (a v)) : AnswerKeepsPlan s (s.withValue value a) :=
  ⟨withValue_keeps (P := KeepsPlan s) (.refl s) fun v => (h v).keeps⟩

end

variable (s : State)

theorem storeRequest_keepsPlan (op : StoreOp) (clamped : Bool) : AnswerKeepsPlan s (s.storeRequest op clamped) :=
  .ite (refuse_keepsPlan _) (.ite (refuse_keepsPlan _) (.ite (.of_same rfl) (.ite (refuse_keepsPlan _) (.of_same rfl))))

theorem recallSlot_keepsPlan (k : Fin 64) (mode : RecallMode) (keep : Bool) :
    AnswerKeepsPlan s (s.recallSlot k mode keep) := by
  refine .ite (refuse_keepsPlan _) ?_
  split
  · exact refuse_keepsPlan _
  · exact refuse_keepsPlan _
  · exact ⟨recall_keepsPlan ..⟩

theorem armFirst_keepsPlan : AnswerKeepsPlan s s.armFirst := by
  unfold State.armFirst
  split
  · exact .ite (refuse_keepsPlan _) ⟨enterAlarmState_keepsPlan ..⟩
  · exact .of_same rfl
  · exact refuse_keepsPlan _
  · exact refuse_keepsPlan _

theorem armSecond_keepsPlan (enable : Bool) : AnswerKeepsPlan s (s.armSecond enable) := by
  unfold State.armSecond
  split
  · exact refuse_keepsPlan _
  · exact .ite ⟨enterArmed_keepsPlan _⟩ ⟨enterAlarmState_keepsPlan ..⟩
  · exact refuse_keepsPlan _
  · exact refuse_keepsPlan _

theorem alarmOn_keepsPlan : AnswerKeepsPlan s s.alarmOn := by
  unfold State.alarmOn
  split
  · exact ⟨takeOverride_keepsPlan ..⟩
  · exact .of_same rfl
  · exact .of_same rfl

theorem alarmOff_keepsPlan : AnswerKeepsPlan s s.alarmOff := by
  unfold State.alarmOff
  split
  · exact refuse_keepsPlan _
  · exact ⟨endOverride_keepsPlan _⟩
  · exact refuse_keepsPlan _

theorem supervise_keepsPlan (phase : Nat) : AnswerKeepsPlan s (s.supervise phase) := by
  unfold State.supervise
  split
  · exact .ite (.of_same rfl) (.ite (.of_same rfl) ⟨enterFault_keepsPlan ..⟩)
  · exact ⟨enterFault_keepsPlan ..⟩
  · exact refuse_keepsPlan _

theorem answerSplt_keepsPlan (body : List Byte) : AnswerKeepsPlan s (s.answerSplt body) := by
  refine .fitting (.withTarget fun x => ?_)
  split
  · exact refuse_keepsPlan _
  · exact ⟨splitArea_keepsPlan ..⟩

theorem pauseRequest_keepsPlan (body : List Byte) (paused : Bool) : AnswerKeepsPlan s (s.pauseRequest body paused) :=
  .fitting (.withTarget fun _ => .ite ⟨changePause_keepsPlan ..⟩ (refuse_keepsPlan _))

/-- Every request of the control line keeps the plan sound: the cases are in the order of Table 9-3. -/
theorem answerControl_keepsPlan (kind : Byte) (body : List Byte) : AnswerKeepsPlan s (s.answerControl kind body) := by
  unfold State.answerControl
  split
  · exact .fitting (.of_same rfl)
  · exact .fitting (.of_same rfl)
  · exact .fitting (.withValue fun _ => .of_same rfl)
  · exact .fitting (.withTarget fun _ => .withValue fun _ => ⟨changeInput_keepsPlan ..⟩)
  · exact .fitting (.withTarget fun _ => .of_same rfl)
  · exact .fitting (.withTarget fun _ => .withValue fun _ => ⟨changeZone_keepsPlan ..⟩)
  · exact .fitting (.withTarget fun _ => .of_same rfl)
  · exact .fitting (.withTarget fun _ => .withValue fun _ => ⟨changeZoneGeometry_keepsPlan ..⟩)
  · exact .fitting (.withTarget fun _ => .withValue fun _ => ⟨changeStation_keepsPlan ..⟩)
  · exact .fitting (.withTarget fun _ => .of_same rfl)
  · exact .fitting (.withValue fun _ => ⟨takeClimate_keepsPlan ..⟩)
  · exact .fitting (.withTarget fun _ => ⟨changeSends_keepsPlan ..⟩)
  · exact .fitting (.withTarget fun _ => .of_same rfl)
  · exact .fitting (.withTarget fun _ => ⟨snapToTargets_keepsPlan ..⟩)
  · exact .fitting (.withTarget fun _ => .withValue fun _ => ⟨changeAreaSettings_keepsPlan ..⟩)
  · exact .fitting (.withTarget fun _ => .of_same rfl)
  · exact .fitting (.withTarget fun _ => .ite ⟨joinArea_keepsPlan ..⟩ (refuse_keepsPlan _))
  · exact answerSplt_keepsPlan ..
  · exact pauseRequest_keepsPlan ..
  · exact pauseRequest_keepsPlan ..
  · exact .fitting (.withTarget fun _ => .withValue fun _ => .of_same rfl)
  · exact .fitting (.withTarget fun _ => .of_same rfl)
  · exact .fitting (.withTarget fun _ => .withValue fun _ => recallSlot_keepsPlan ..)
  · exact .fitting (.withTarget fun _ => .withValue fun _ => storeRequest_keepsPlan ..)
  · exact .fitting (.withTarget fun _ => storeRequest_keepsPlan ..)
  · exact .fitting (.withTarget fun _ => .of_same rfl)
  · exact .fitting (.withValue fun _ => storeRequest_keepsPlan ..)
  · exact .fitting (.of_same rfl)
  · exact .fitting (.of_same rfl)
  · exact .fitting (.withValue fun _ => storeRequest_keepsPlan ..)
  · exact .fitting (.withValue fun _ => storeRequest_keepsPlan ..)
  · exact .fitting (.of_same rfl)
  · exact .fitting (armFirst_keepsPlan _)
  · exact .fitting (.withValue fun _ => armSecond_keepsPlan ..)
  · exact .fitting (.ite (refuse_keepsPlan _) (.ite (refuse_keepsPlan _) (.of_same rfl)))
  · exact refuse_keepsPlan _

/-- Every request of the safety line keeps the plan sound. -/
theorem answerSafety_keepsPlan (kind : Byte) (body : List Byte) : AnswerKeepsPlan s (s.answerSafety kind body) := by
  unfold State.answerSafety
  split
  · exact .fitting (alarmOn_keepsPlan _)
  · exact .fitting (alarmOff_keepsPlan _)
  · exact .fitting (supervise_keepsPlan ..)
  · exact refuse_keepsPlan _

theorem requests_keepPlan : RequestsKeep PlanRecordsSound where
  line _ _ _ := (KeepsPlan.of_same (by simp)).sound
  answered s line kind body := by
    cases line with
    | control => exact (answerControl_keepsPlan s kind body).keeps.sound
    | safety => exact (answerSafety_keepsPlan s kind body).keeps.sound

theorem events_keepPlan : EventsKeep PlanRecordsSound where
  inputFrame s i samples := (inputFrame_keepsPlan s i samples).sound
  holdTick s area := (holdTick_keepsPlan s area).sound
  holdExpiry s i := (holdExpiry_keepsPlan s i).sound
  planFrameStep s audio := (planFrameStep_keepsPlan s audio).sound
  moveEnd s x := (moveEnd_keepsPlan s x).sound
  completeStore s := (completeStore_keepsPlan s).sound
  panelSample s n levelA levelB levelZ := (panelSample_keepsPlan s n levelA levelB levelZ).sound
  keySample s level := (keySample_keepsPlan s level).sound
  supervisionTick s := (supervisionTick_keepsPlan s).sound
  expireSupervision s := (expireSupervision_keepsPlan s).sound
  startUp := startUp_planRecordsSound
  cold s := cold_planRecordsSound s.store s.pending false
  frameBoundary _ := (KeepsPlan.of_same rfl).sound

end Sys2Proof.Machine

namespace Sys2Proof.Proofs

open Sys2Proof Sys2Proof.Machine Sys2Proof.Safety

/-- Settles O38: the plan's records are sound after every request and every event (`requests_keepPlan`,
`events_keepPlan`), record by record (`RecordSound`). -/
theorem planRecordsStaySound : Obligations.PlanRecordsStaySound := fun _ _ sound stepped =>
  step_keeps requests_keepPlan events_keepPlan (fun _ _ => (KeepsPlan.of_same rfl).sound) sound stepped

end Sys2Proof.Proofs
end

section
/-! PROOFS. O15: the crosspoint index. -/

namespace Sys2Proof.Machine

@[simp] theorem inputOf_crosspointOf (i : Fin 24) (z : Fin 16) : inputOf (crosspointOf i z) = i :=
  Fin.ext (by show (i.val * 16 + z.val) / 16 = i.val; omega)

@[simp] theorem zoneOf_crosspointOf (i : Fin 24) (z : Fin 16) : zoneOf (crosspointOf i z) = z :=
  Fin.ext (by show (i.val * 16 + z.val) % 16 = z.val; omega)

@[simp] theorem crosspointOf_inputOf_zoneOf (x : Fin 384) : crosspointOf (inputOf x) (zoneOf x) = x :=
  Fin.ext (Nat.div_add_mod' x.val 16)

end Sys2Proof.Machine

namespace Sys2Proof.Proofs

open Sys2Proof Sys2Proof.Machine Sys2Proof.Safety

/-- Settles O15: quotient and remainder by 16 undo the index. -/
theorem crosspointIndexNamesItsInputAndZone : Obligations.CrosspointIndexNamesItsInputAndZone :=
  ⟨fun i z => ⟨rfl, inputOf_crosspointOf i z, zoneOf_crosspointOf i z⟩, crosspointOf_inputOf_zoneOf⟩

end Sys2Proof.Proofs
end

section
/-! SUPPORT. R2, R27, R89, R90, R147: what the arithmetic of audio samples computes, against the real numbers that the
spec names. A gain of t td is ten to the power t/200; free roundings (logs 12, 13) take one of the two nearest whole
numbers. -/

namespace Sys2Proof.Machine

/-! ### A magnitude scaled by a gain -/

/-- The powers of ten that the 200th powers compare. -/
theorem ten_pow_toNat (t : ℤ) :
    (10 : ℝ) ^ t.toNat = ((10 : ℝ) ^ ((t : ℝ) / 200)) ^ 200 * 10 ^ (-t).toNat := by
  have power : ((10 : ℝ) ^ ((t : ℝ) / 200)) ^ 200 = 10 ^ t := by
    rw [← Real.rpow_natCast, ← Real.rpow_mul (by norm_num), ← Real.rpow_intCast]
    congr 1
    push_cast
    ring
  rw [power, ← zpow_natCast, ← zpow_natCast, ← zpow_add₀ (by norm_num)]
  congr 1
  omega

theorem atMostScaled_iff (t : ℤ) (m n : ℕ) :
    atMostScaled t m n = true ↔ (n : ℝ) ≤ m * (10 : ℝ) ^ ((t : ℝ) / 200) := by
  unfold atMostScaled
  rw [decide_eq_true_iff, ← Nat.cast_le (α := ℝ)]
  push_cast
  rw [ten_pow_toNat t, ← mul_assoc, ← mul_pow, mul_le_mul_iff_left₀ (by positivity),
    pow_le_pow_iff_left₀ (by positivity) (by positivity) (by norm_num)]

theorem exactlyScaled_iff (t : ℤ) (m n : ℕ) :
    exactlyScaled t m n = true ↔ (n : ℝ) = m * (10 : ℝ) ^ ((t : ℝ) / 200) := by
  unfold exactlyScaled
  rw [decide_eq_true_iff, ← Nat.cast_inj (R := ℝ)]
  push_cast
  rw [ten_pow_toNat t, ← mul_assoc, ← mul_pow, mul_left_inj' (by positivity),
    pow_left_inj₀ (by positivity) (by positivity) (by norm_num)]

/-- The number of bits that `scaledFloor` tries is enough. -/
theorem scaled_lt_two_pow (t : ℤ) (m : ℕ) :
    m * (10 : ℝ) ^ ((t : ℝ) / 200) < 2 ^ (m.log2 + 1 + 4 * (t.toNat / 200 + 1)) := by
  have size : (m : ℝ) < 2 ^ (m.log2 + 1) := by exact_mod_cast Nat.lt_log2_self
  have exponent : (t : ℝ) / 200 ≤ (t.toNat / 200 + 1 : ℕ) := by
    have whole : t ≤ ((t.toNat / 200 + 1) * 200 : ℕ) := by omega
    rw [div_le_iff₀ (by norm_num)]
    have whole' := Int.cast_le (R := ℝ).2 whole
    push_cast at whole' ⊢
    exact whole'
  have power : (10 : ℝ) ^ ((t : ℝ) / 200) ≤ 2 ^ (4 * (t.toNat / 200 + 1)) :=
    calc (10 : ℝ) ^ ((t : ℝ) / 200)
        ≤ 10 ^ (t.toNat / 200 + 1) := by
          rw [← Real.rpow_natCast]
          exact Real.rpow_le_rpow_of_exponent_le (by norm_num) exponent
      _ ≤ 2 ^ (4 * (t.toNat / 200 + 1)) := by
          rw [pow_mul]
          exact pow_le_pow_left₀ (by norm_num) (by norm_num) _
  rw [pow_add]
  exact mul_lt_mul size power (by positivity) (by positivity)

theorem scaledFloor_eq_floor (t : ℤ) (m : ℕ) :
    scaledFloor t m = ⌊m * (10 : ℝ) ^ ((t : ℝ) / 200)⌋₊ := by
  have down : ∀ a b, a ≤ b → atMostScaled t m b = true → atMostScaled t m a = true := by
    intro a b ab hb
    rw [atMostScaled_iff] at hb ⊢
    exact (Nat.cast_le.2 ab).trans hb
  have spec := searchDown_spec (atMostScaled t m) down (m.log2 + 1 + 4 * (t.toNat / 200 + 1)) 0
    ((atMostScaled_iff t m 0).2 (by push_cast; positivity))
    (by
      rw [← Bool.not_eq_true, atMostScaled_iff, not_le, zero_add]
      push_cast
      exact scaled_lt_two_pow t m)
  rw [← Bool.not_eq_true, atMostScaled_iff, atMostScaled_iff, not_le] at spec
  exact ((Nat.floor_eq_iff (by positivity)).2 (by exact_mod_cast spec)).symm

/-- R89, R147: a scaled magnitude is one of the two whole numbers nearest to the exact value, or the value itself where
it is whole (log 12). -/
theorem scaledMagnitude_between (t : ℤ) (m : ℕ) :
    ⌊m * (10 : ℝ) ^ ((t : ℝ) / 200)⌋₊ ≤ scaledMagnitude t m
      ∧ scaledMagnitude t m ≤ ⌈m * (10 : ℝ) ^ ((t : ℝ) / 200)⌉₊ := by
  unfold scaledMagnitude
  rw [scaledFloor_eq_floor]
  split
  · exact ⟨le_rfl, Nat.floor_le_ceil _⟩
  · next inexact =>
    rw [exactlyScaled_iff] at inexact
    have below := lt_of_le_of_ne (Nat.floor_le (by positivity : 0 ≤ m * (10 : ℝ) ^ ((t : ℝ) / 200))) inexact
    split
    · exact ⟨Nat.le_succ _, Nat.lt_ceil.2 below⟩
    · exact ⟨le_rfl, Nat.floor_le_ceil _⟩

theorem abs_scaledMagnitude_sub_lt (t : ℤ) (m : ℕ) :
    |(scaledMagnitude t m : ℝ) - m * (10 : ℝ) ^ ((t : ℝ) / 200)| < 1 := by
  obtain ⟨low, high⟩ := scaledMagnitude_between t m
  have floor := Nat.lt_floor_add_one (m * (10 : ℝ) ^ ((t : ℝ) / 200))
  have ceil := Nat.ceil_lt_add_one (by positivity : 0 ≤ m * (10 : ℝ) ^ ((t : ℝ) / 200))
  have low' := Nat.cast_le (α := ℝ).2 low
  have high' := Nat.cast_le (α := ℝ).2 high
  rw [abs_lt]
  constructor <;> linarith

theorem scaledMagnitude_whole {t : ℤ} {m k : ℕ} (h : m * (10 : ℝ) ^ ((t : ℝ) / 200) = k) :
    scaledMagnitude t m = k := by
  have between := scaledMagnitude_between t m
  rw [h, Nat.floor_natCast, Nat.ceil_natCast] at between
  exact le_antisymm between.2 between.1

theorem scaledMagnitude_le {t : ℤ} {m k : ℕ} (h : m * (10 : ℝ) ^ ((t : ℝ) / 200) ≤ k) : scaledMagnitude t m ≤ k :=
  (scaledMagnitude_between t m).2.trans (Nat.ceil_le.2 h)

theorem le_scaledMagnitude {t : ℤ} {m k : ℕ} (h : k ≤ m * (10 : ℝ) ^ ((t : ℝ) / 200)) : k ≤ scaledMagnitude t m :=
  (Nat.le_floor h).trans (scaledMagnitude_between t m).1

@[simp] theorem scaledMagnitude_zero (m : ℕ) : scaledMagnitude 0 m = m := scaledMagnitude_whole (by simp)

/-! ### Full scale and scaled samples -/

theorem limitToFullScale_eq (x : ℤ) : limitToFullScale x = max (-(Config.fullScale : ℤ)) (min Config.fullScale x) := by
  unfold limitToFullScale
  split_ifs <;> omega

theorem natAbs_limitToFullScale_le (x : ℤ) : (limitToFullScale x).natAbs ≤ Config.fullScale := by
  rw [limitToFullScale_eq]
  omega

theorem limitToFullScale_of_le {x : ℤ} (h : x.natAbs ≤ Config.fullScale) : limitToFullScale x = x := by
  rw [limitToFullScale_eq]
  omega

@[simp] theorem limitToFullScale_zero : limitToFullScale 0 = 0 := limitToFullScale_of_le (Nat.zero_le _)

/-- Holding at full scale takes no two numbers further apart. -/
theorem abs_limitToFullScale_sub_le (x : ℤ) (v : ℝ) :
    |(limitToFullScale x : ℝ) - max (-(Config.fullScale : ℝ)) (min (Config.fullScale : ℝ) v)| ≤ |(x : ℝ) - v| := by
  rw [limitToFullScale_eq]
  push_cast
  rw [max_comm, max_comm (-(Config.fullScale : ℝ)), min_comm, min_comm (Config.fullScale : ℝ)]
  exact (abs_max_sub_max_le_abs _ _ _).trans (abs_inf_sub_inf_le_abs _ _ _)

/-- R27, R89, R147: a scaled sample keeps its sign, also at a gain of 0 td. -/
theorem scaleSample_eq (t x : ℤ) :
    scaleSample t x = limitToFullScale (x.sign * (scaledMagnitude t x.natAbs : ℤ)) := by
  unfold scaleSample
  split
  · next zero => rw [zero, scaledMagnitude_zero, Int.sign_mul_natAbs]
  · rfl

theorem scaleSample_zero {x : ℤ} (h : x.natAbs ≤ Config.fullScale) : scaleSample 0 x = x := by
  rw [scaleSample, if_pos rfl, limitToFullScale_of_le h]

/-- The exact scaled value of a sample is its sign times that of its magnitude. -/
theorem scaled_eq_sign_mul (x : ℤ) (p : ℝ) : x * p = x.sign * (x.natAbs * p) := by
  rw [← mul_assoc, ← Int.cast_natCast x.natAbs, ← Int.cast_mul, Int.sign_mul_natAbs]

theorem abs_intCast (x : ℤ) : |(x : ℝ)| = x.natAbs := by rw [Nat.cast_natAbs, Int.cast_abs]

theorem abs_scaled (t x : ℤ) :
    |x * (10 : ℝ) ^ ((t : ℝ) / 200)| = x.natAbs * (10 : ℝ) ^ ((t : ℝ) / 200) := by
  rw [abs_mul, abs_intCast, abs_of_pos (by positivity : (0 : ℝ) < 10 ^ ((t : ℝ) / 200))]

theorem natAbs_sign_le_one (x : ℤ) : x.sign.natAbs ≤ 1 := by
  rcases eq_or_ne x 0 with rfl | h
  · simp
  · exact (Int.natAbs_sign_of_ne_zero h).le

/-- R147: a sample that its gain takes beyond full scale is at full scale. -/
theorem scaleSample_beyond {t x : ℤ} (h : (Config.fullScale : ℝ) < |x * (10 : ℝ) ^ ((t : ℝ) / 200)|) :
    scaleSample t x = x.sign * Config.fullScale := by
  rw [abs_scaled] at h
  have full := le_scaledMagnitude h.le
  rw [scaleSample_eq, limitToFullScale_eq]
  rcases lt_trichotomy x 0 with neg | rfl | pos
  · rw [Int.sign_eq_neg_one_of_neg neg]; omega
  · simp
  · rw [Int.sign_eq_one_of_pos pos]; omega

/-- R147: any other sample keeps its sign and takes the scaled magnitude. -/
theorem scaleSample_of_le {t x : ℤ} (h : |x * (10 : ℝ) ^ ((t : ℝ) / 200)| ≤ Config.fullScale) :
    scaleSample t x = x.sign * scaledMagnitude t x.natAbs := by
  rw [abs_scaled] at h
  rw [scaleSample_eq, limitToFullScale_of_le]
  rw [Int.natAbs_mul, Int.natAbs_natCast]
  exact (Nat.mul_le_mul (natAbs_sign_le_one x) (scaledMagnitude_le h)).trans_eq (one_mul _)

/-- R147: it is within one unit of the scaled one, and equal to it where that is whole (log 12). -/
theorem scaleSample_within {t x : ℤ} (h : |x * (10 : ℝ) ^ ((t : ℝ) / 200)| ≤ Config.fullScale) :
    |(scaleSample t x : ℝ) - x * (10 : ℝ) ^ ((t : ℝ) / 200)| < 1
      ∧ ∀ k : ℤ, x * (10 : ℝ) ^ ((t : ℝ) / 200) = k → scaleSample t x = k := by
  have value := scaled_eq_sign_mul x ((10 : ℝ) ^ ((t : ℝ) / 200))
  rw [scaleSample_of_le h]
  constructor
  · have sign : |(x.sign : ℝ)| ≤ 1 := by
      rw [abs_intCast]
      exact_mod_cast natAbs_sign_le_one x
    rw [value]
    push_cast
    rw [← mul_sub, abs_mul]
    exact (mul_le_of_le_one_left (abs_nonneg _) sign).trans_lt (abs_scaledMagnitude_sub_lt t x.natAbs)
  · intro k whole
    have size : x.natAbs * (10 : ℝ) ^ ((t : ℝ) / 200) = k.natAbs := by rw [← abs_scaled, whole, abs_intCast]
    rw [scaledMagnitude_whole size]
    rw [whole, size, ← Int.cast_natCast k.natAbs, ← Int.cast_mul, Int.cast_inj] at value
    exact value.symm

/-! ### Rounded quotients -/

section
variable {num : ℤ} {den : ℕ} (den0 : 0 < den)
include den0

/-- R90: a quotient is rounded to one of the two nearest whole numbers (log 13). -/
theorem natAbs_mul_roundedQuotient_sub_lt : (den * roundedQuotient num den - num).natAbs < den := by
  have division := Int.mul_ediv_add_emod num den
  have low := Int.emod_nonneg num (by omega : (den : ℤ) ≠ 0)
  have high := Int.emod_lt_of_pos num (by omega : (0 : ℤ) < den)
  unfold roundedQuotient
  split_ifs
  · omega
  · rw [mul_add, mul_one]; omega
  · omega

theorem le_roundedQuotient {k : ℤ} (h : den * k ≤ num) : k ≤ roundedQuotient num den := by
  have close := natAbs_mul_roundedQuotient_sub_lt den0 (num := num)
  by_contra less
  have : den * (roundedQuotient num den + 1) ≤ den * k := Int.mul_le_mul_of_nonneg_left (by omega) (by omega)
  rw [mul_add, mul_one] at this
  omega

theorem roundedQuotient_le {k : ℤ} (h : num ≤ den * k) : roundedQuotient num den ≤ k := by
  have close := natAbs_mul_roundedQuotient_sub_lt den0 (num := num)
  by_contra more
  have : den * (k + 1) ≤ den * roundedQuotient num den := Int.mul_le_mul_of_nonneg_left (by omega) (by omega)
  rw [mul_add, mul_one] at this
  omega

theorem roundedQuotient_mul (k : ℤ) : roundedQuotient (den * k) den = k :=
  le_antisymm (roundedQuotient_le den0 le_rfl) (le_roundedQuotient den0 le_rfl)

theorem abs_roundedQuotient_sub_lt : |(roundedQuotient num den : ℝ) - num / den| < 1 := by
  have den0' : (0 : ℝ) < den := by exact_mod_cast den0
  have close : |(den : ℝ) * roundedQuotient num den - num| < den := by
    have := natAbs_mul_roundedQuotient_sub_lt den0 (num := num)
    rw [← Int.ofNat_lt, Int.natCast_natAbs] at this
    exact_mod_cast this
  have scaled : (roundedQuotient num den : ℝ) - num / den = (den * roundedQuotient num den - num) / den := by
    field_simp
  rwa [scaled, abs_div, abs_of_pos den0', div_lt_one den0']

end

/-! ### Amplitudes (R2, R90) -/

/-- R2, R90: the linear amplitude of a gain in td as a real number; the floor is silence. -/
noncomputable def amplitudeReal (t : ℤ) : ℝ := if t = -1000 then 0 else (10 : ℝ) ^ ((t : ℝ) / 200)

theorem amplitudeReal_nonneg (t : ℤ) : 0 ≤ amplitudeReal t := by
  unfold amplitudeReal
  split <;> positivity

theorem abs_amplitude_sub_le (t : ℤ) : |(amplitude t : ℝ) - Config.amplitudeUnit * amplitudeReal t| ≤ 1 := by
  unfold amplitude amplitudeReal
  split
  · simp
  · exact (abs_scaledMagnitude_sub_lt ..).le

@[simp] theorem amplitude_zero : amplitude 0 = Config.amplitudeUnit := by simp [amplitude]

/-- R83, R90: an amplitude that moves linearly over the 48 samples, at sample n counted from 0 (log 16). -/
noncomputable def glideReal (before after : ℤ) (n : ℕ) : ℝ :=
  (amplitudeReal before * (47 - (n : ℝ)) + amplitudeReal after * ((n : ℝ) + 1)) / 48

theorem glideReal_nonneg (before after : ℤ) {n : ℕ} (h : n < 48) : 0 ≤ glideReal before after n := by
  have h' : (n : ℝ) ≤ 47 := by exact_mod_cast Nat.le_of_lt_succ h
  have hb := amplitudeReal_nonneg before
  have ha := amplitudeReal_nonneg after
  unfold glideReal
  have : 0 ≤ amplitudeReal before * (47 - (n : ℝ)) := mul_nonneg hb (by linarith)
  positivity

/-- The model's gliding amplitude is within one of its units. -/
theorem abs_glide_sub_le (before after : ℤ) {n : ℕ} (h : n < 48) :
    |(glide (amplitude before) (amplitude after) (n + 1) : ℝ) / (48 * Config.amplitudeUnit)
      - glideReal before after n| ≤ 1 / Config.amplitudeUnit := by
  have unit0 : (0 : ℝ) < Config.amplitudeUnit := by norm_num [Config.amplitudeUnit]
  have h' : (n : ℝ) ≤ 47 := by exact_mod_cast Nat.le_of_lt_succ h
  have hb := abs_le.1 (abs_amplitude_sub_le before)
  have ha := abs_le.1 (abs_amplitude_sub_le after)
  have value : (glide (amplitude before) (amplitude after) (n + 1) : ℝ) / (48 * Config.amplitudeUnit)
      - glideReal before after n
      = ((amplitude before - Config.amplitudeUnit * amplitudeReal before) * (47 - n)
        + (amplitude after - Config.amplitudeUnit * amplitudeReal after) * (n + 1)) / (48 * Config.amplitudeUnit) := by
    unfold glide glideReal
    rw [Nat.cast_add, Nat.cast_mul, Nat.cast_mul, Nat.cast_sub (by omega)]
    push_cast
    field_simp
    ring
  rw [value, abs_div, abs_of_pos (by positivity : (0 : ℝ) < 48 * Config.amplitudeUnit),
    div_le_div_iff₀ (by positivity) unit0, one_mul]
  refine mul_le_mul_of_nonneg_right (abs_le.2 ⟨?_, ?_⟩) unit0.le <;> nlinarith

@[simp] theorem glide_same (a k : ℕ) (h : k ≤ 48) : glide a a k = 48 * a := by
  unfold glide
  rw [← mul_add, Nat.sub_add_cancel h, mul_comm]

end Sys2Proof.Machine
end

section
/-! SUPPORT. R83, R89 to R91: the samples that a plan step taps, a crosspoint's contribution and a zone's sum, sample by
sample. -/

namespace Sys2Proof.Machine

/-! ### Taps (R89) -/

@[simp] theorem length_tap (memory : List ℤ) (delay : ℕ) : (tap memory delay).length = 48 := by
  simp only [tap, List.length_reverse, List.length_append, List.length_take, List.length_replicate]
  omega

/-- R89: sample n of a tap is the memory's sample its delay before the present one. -/
theorem getD_tap (memory : List ℤ) (delay : ℕ) {n : ℕ} (h : n < 48) :
    (tap memory delay).getD n 0 = memory.getD (47 - n + delay) 0 := by
  have length := length_tap memory delay
  simp only [tap, List.length_reverse] at length
  simp only [tap, List.getD_eq_getElem?_getD]
  rw [List.getElem?_reverse (by omega), length, List.getElem?_append]
  split
  · next inside =>
    rw [List.getElem?_take_of_lt (by omega), List.getElem?_drop]
    congr 2
    omega
  · next outside =>
    rw [List.length_take, List.length_drop] at outside
    rw [List.getElem?_replicate, List.getElem?_eq_none (l := memory) (by omega)]
    split <;> rfl

/-- R27, R89: what an input has heard, newest first, with the present frame's trimmed samples, whether they have been
taken into its delay memory or have yet to come (log 14). -/
def Input.heard (x : Input) (coming : List ℤ) : List ℤ :=
  if x.frameTaken = true then x.memory else (coming.map (scaleSample x.settings.trim)).reverse ++ x.memory

/-- R89: within the delay memory's length a tap is of what the input has heard. -/
theorem getD_tap_tapped (x : Input) (coming : List ℤ) {delay n : ℕ} (reach : delay ≤ 16383) (h : n < 48) :
    (tap (x.tapped coming) delay).getD n 0 = (x.heard coming).getD (47 - n + delay) 0 := by
  rw [getD_tap _ _ h]
  unfold Input.tapped Input.heard
  split
  · rfl
  · rw [Input.memoryWith, storeFrame, List.getD_eq_getElem?_getD, List.getElem?_take_of_lt (by unfold memoryLength; omega),
      ← List.getD_eq_getElem?_getD]

/-- A sample of a list of samples within full scale, silence past its end. -/
theorem natAbs_getD_le {samples : List ℤ} {full : ℕ} (h : ∀ x ∈ samples, x.natAbs ≤ full) (n : ℕ) :
    (samples.getD n 0).natAbs ≤ full := by
  rw [List.getD_eq_getElem?_getD]
  cases e : samples[n]? with
  | none => exact Nat.zero_le _
  | some x => exact h x (List.mem_of_getElem? e)

/-! ### Contributions (R83, R90) -/

section
variable (m : Mix)

theorem length_samplesFrom {xs ys : List ℤ} (h : xs.length = ys.length) (k : ℕ) :
    (m.samplesFrom k xs ys).length = xs.length := by
  induction xs generalizing ys k with
  | nil => rfl
  | cons x xs ih =>
    cases ys with
    | nil => cases h
    | cons y ys => rw [Mix.samplesFrom, List.length_cons, List.length_cons, ih (Nat.succ.inj h)]

theorem getD_samplesFrom {xs ys : List ℤ} (h : xs.length = ys.length) (k : ℕ) {n : ℕ} (hn : n < xs.length) :
    (m.samplesFrom k xs ys).getD n 0 = m.sample (k + n) (xs.getD n 0) (ys.getD n 0) := by
  induction xs generalizing ys k n with
  | nil => cases hn
  | cons x xs ih =>
    cases ys with
    | nil => cases h
    | cons y ys =>
      cases n with
      | zero => rfl
      | succ n =>
        rw [Mix.samplesFrom, List.getD_cons_succ, List.getD_cons_succ, List.getD_cons_succ,
          ih (Nat.succ.inj h) _ (Nat.lt_of_succ_lt_succ hn), Nat.succ_add_eq_add_succ]

/-- R83: how many of the 48 n parts of the crossfade are of T at sample n, counted from 0 (log 16). -/
def Mix.parts (n : ℕ) : ℤ := 48 * (m.step - 1 : ℕ) + (n + 1 : ℕ)

/-- R83: the crossfaded tap at a sample, in 48 parts for each step of the move. -/
def Mix.mixed (n : ℕ) : ℤ :=
  (48 * m.length - m.parts n) * m.tapFrom.getD n 0 + m.parts n * m.tapTo.getD n 0

/-- R90: the amplitude that a gain has at a sample, in 48 parts of `Config.amplitudeUnit`. -/
def amplitudeAt (before after : ℤ) (n : ℕ) : ℕ := glide (amplitude before) (amplitude after) (n + 1)

theorem getD_contribution (hFrom : m.tapFrom.length = 48) (hTo : m.tapTo.length = 48) {n : ℕ} (h : n < 48) :
    m.contribution.getD n 0 = roundedQuotient
      (m.mixed n * amplitudeAt m.gainBefore m.gainAfter n * amplitudeAt m.gateBefore m.gateAfter n)
      (48 * m.length * (48 * Config.amplitudeUnit) * (48 * Config.amplitudeUnit)) := by
  rw [Mix.contribution, getD_samplesFrom m (by omega) 1 (by omega), add_comm 1 n]
  rfl

/-- R90: what the contribution gives to the sum at a sample: nothing where it is silence. -/
def Mix.given (n : ℕ) : ℤ := if m.silent then 0 else m.contribution.getD n 0

theorem given_silent (h : m.silent = true) (n : ℕ) : m.given n = 0 := if_pos h

theorem silent_iff : m.silent = true
    ↔ (m.gainBefore = -1000 ∧ m.gainAfter = -1000) ∨ (m.gateBefore = -1000 ∧ m.gateAfter = -1000) := by
  simp [Mix.silent]

/-- The taps are whole frames, and the step of the crossfade is one of its length. -/
structure Mix.Sound : Prop where
  tapFrom : m.tapFrom.length = 48
  tapTo : m.tapTo.length = 48
  step : 0 < m.step
  length : m.step ≤ m.length

namespace Mix.Sound

variable {m} (sound : m.Sound)
include sound

theorem given {n : ℕ} (loud : m.silent = false) (h : n < 48) : m.given n = roundedQuotient
    (m.mixed n * amplitudeAt m.gainBefore m.gainAfter n * amplitudeAt m.gateBefore m.gateAfter n)
    (48 * m.length * (48 * Config.amplitudeUnit) * (48 * Config.amplitudeUnit)) := by
  rw [Mix.given, loud, if_neg Bool.false_ne_true, getD_contribution m sound.tapFrom sound.tapTo h]

theorem length_pos : 0 < m.length := sound.step.trans_le sound.length

theorem den_pos : 0 < 48 * m.length * (48 * Config.amplitudeUnit) * (48 * Config.amplitudeUnit) := by
  have := sound.length_pos
  unfold Config.amplitudeUnit
  positivity

/-- R83: the crossfade of two samples within full scale is within it. -/
theorem natAbs_mixed_le {n full : ℕ} (h : n < 48) (hFrom : (m.tapFrom.getD n 0).natAbs ≤ full)
    (hTo : (m.tapTo.getD n 0).natAbs ≤ full) : (m.mixed n).natAbs ≤ 48 * m.length * full := by
  have step := sound.step
  have length := sound.length
  have parts0 : 0 ≤ m.parts n := by unfold Mix.parts; omega
  have parts1 : 0 ≤ 48 * (m.length : ℤ) - m.parts n := by unfold Mix.parts; omega
  rw [← Int.ofNat_le, Int.natCast_natAbs] at hFrom hTo ⊢
  calc |m.mixed n|
      ≤ |(48 * m.length - m.parts n) * m.tapFrom.getD n 0| + |m.parts n * m.tapTo.getD n 0| := abs_add_le _ _
    _ ≤ (48 * m.length - m.parts n) * full + m.parts n * full := by
        rw [abs_mul, abs_mul, abs_of_nonneg parts0, abs_of_nonneg parts1]
        exact add_le_add (mul_le_mul_of_nonneg_left hFrom parts1) (mul_le_mul_of_nonneg_left hTo parts0)
    _ = ((48 * m.length * full : ℕ) : ℤ) := by push_cast; ring

end Mix.Sound

end

/-! ### Zone sums (R90) -/

theorem length_addFrames {xs ys : List ℤ} (hx : xs.length = 48) (hy : ys.length = 48) :
    (addFrames xs ys).length = 48 := by simp [addFrames, hx, hy]

theorem getD_addFrames {xs ys : List ℤ} (hx : xs.length = 48) (hy : ys.length = 48) {n : ℕ} (h : n < 48) :
    (addFrames xs ys).getD n 0 = xs.getD n 0 + ys.getD n 0 := by
  rw [List.getD_eq_getElem _ _ (by rw [length_addFrames hx hy]; exact h), List.getD_eq_getElem _ _ (by omega),
    List.getD_eq_getElem _ _ (by omega)]
  exact List.getElem_zipWith ..

/-- The frames of contributions add up sample by sample. -/
theorem foldl_addFrames (mixes : List Mix) (each : ∀ m ∈ mixes, m.contribution.length = 48) {sum : List ℤ}
    (hs : sum.length = 48) :
    (mixes.foldl (fun sum m => addFrames sum m.contribution) sum).length = 48
      ∧ ∀ n < 48, (mixes.foldl (fun sum m => addFrames sum m.contribution) sum).getD n 0
        = sum.getD n 0 + (mixes.map fun m => m.contribution.getD n 0).sum := by
  induction mixes generalizing sum with
  | nil => exact ⟨hs, fun n _ => by simp⟩
  | cons m mixes ih =>
    have hm := each m List.mem_cons_self
    obtain ⟨length, samples⟩ := ih (fun m h => each m (List.mem_cons_of_mem _ h)) (length_addFrames hs hm)
    refine ⟨length, fun n h => ?_⟩
    rw [List.foldl_cons, samples n h, getD_addFrames hs hm h, List.map_cons, List.sum_cons, add_assoc]

/-- Leaving out the contributions that are silence leaves out zeroes. -/
theorem sum_map_contribution (mixes : List Mix) (n : ℕ) :
    ((mixes.filter fun m => !m.silent).map fun m => m.contribution.getD n 0).sum
      = (mixes.map fun m => m.given n).sum := by
  induction mixes with
  | nil => rfl
  | cons m mixes ih =>
    rw [List.map_cons, List.sum_cons, ← ih]
    cases silent : m.silent <;> simp [silent, Mix.given]

theorem getD_map_limitToFullScale (sum : List ℤ) (n : ℕ) :
    (sum.map limitToFullScale).getD n 0 = limitToFullScale (sum.getD n 0) := by
  have held := List.getD_map (l := sum) (d := 0) (n := n) limitToFullScale
  rwa [limitToFullScale_zero] at held

section
variable (s : State) (audio : AudioFrame)

/-- R90: what an input gives to a zone's sum of this frame. -/
def State.mixFor (z : Fin 16) (i : Fin 24) : Mix := s.mixOf audio (crosspointOf i z)

theorem length_contribution (x : Fin 384) : (s.mixOf audio x).contribution.length = 48 := by
  rw [Mix.contribution, length_samplesFrom] <;> simp [State.mixOf]

/-- What a plan step taps for an input: its delay memory with the present frame (log 14). -/
def State.tappedFor (i : Fin 24) : List ℤ := (s.input i).tapped (audio.inputs.getD i.val [])

/-- R27, R89: what an input has heard when a plan step comes. -/
def State.heardBy (i : Fin 24) : List ℤ := (s.input i).heard (audio.inputs.getD i.val [])

section
variable (z : Fin 16) (i : Fin 24)

@[simp] theorem mixFor_gainBefore :
    (s.mixFor audio z i).gainBefore = (s.crosspoint (crosspointOf i z)).activeGain := rfl

@[simp] theorem mixFor_gainAfter : (s.mixFor audio z i).gainAfter
    = rampGain (s.zone z).geometry.slew (s.crosspoint (crosspointOf i z)).activeGain
        (s.crosspoint (crosspointOf i z)).targetGain := by
  simp only [State.mixFor, State.mixOf, zoneOf_crosspointOf]

@[simp] theorem mixFor_gateBefore : (s.mixFor audio z i).gateBefore = (s.input i).gainUsed := by
  simp only [State.mixFor, State.mixOf, inputOf_crosspointOf]

@[simp] theorem mixFor_gateAfter : (s.mixFor audio z i).gateAfter = (s.input i).gain := by
  simp only [State.mixFor, State.mixOf, inputOf_crosspointOf]

theorem mixFor_tapFrom : (s.mixFor audio z i).tapFrom
    = tap (s.tappedFor audio i) (s.crosspoint (crosspointOf i z)).activeDelay := by
  rw [State.mixFor, State.mixOf, inputOf_crosspointOf]; rfl

/-- R83: a STEADY crosspoint has one tap. -/
theorem mixFor_steady (steady : (s.crosspoint (crosspointOf i z)).move = none) :
    (s.mixFor audio z i).tapTo = tap (s.tappedFor audio i) (s.crosspoint (crosspointOf i z)).activeDelay
      ∧ (s.mixFor audio z i).step = 1 ∧ (s.mixFor audio z i).length = 1 := by
  simp only [State.mixFor, State.mixOf, inputOf_crosspointOf, steady, State.tappedFor, and_self]

/-- R83: a MOVING crosspoint crosses over to its second tap. -/
theorem mixFor_moving {m : Move} (moving : (s.crosspoint (crosspointOf i z)).move = some m) :
    (s.mixFor audio z i).tapTo = tap (s.tappedFor audio i) m.dest
      ∧ (s.mixFor audio z i).step = m.elapsed + 1 ∧ (s.mixFor audio z i).length = m.length := by
  simp only [State.mixFor, State.mixOf, inputOf_crosspointOf, moving, State.tappedFor, and_self]

theorem mixFor_sound (running : ∀ m, (s.crosspoint (crosspointOf i z)).move = some m → m.elapsed < m.length) :
    (s.mixFor audio z i).Sound := by
  have tapFrom : (s.mixFor audio z i).tapFrom.length = 48 := by rw [mixFor_tapFrom, length_tap]
  cases move : (s.crosspoint (crosspointOf i z)).move with
  | none =>
    obtain ⟨tapTo, step, length⟩ := mixFor_steady s audio z i move
    exact ⟨tapFrom, by rw [tapTo, length_tap], by omega, by omega⟩
  | some m =>
    obtain ⟨tapTo, step, length⟩ := mixFor_moving s audio z i move
    have := running m move
    exact ⟨tapFrom, by rw [tapTo, length_tap], by omega, by omega⟩

/-- R83, R89: at a STEADY crosspoint the crossfade is of one sample with itself. -/
theorem mixed_steady (steady : (s.crosspoint (crosspointOf i z)).move = none)
    (reach : (s.crosspoint (crosspointOf i z)).activeDelay ≤ 16383) {n : ℕ} (h : n < 48) :
    (s.mixFor audio z i).mixed n
      = 48 * (s.heardBy audio i).getD (47 - n + (s.crosspoint (crosspointOf i z)).activeDelay) 0 := by
  obtain ⟨tapTo, step, length⟩ := mixFor_steady s audio z i steady
  rw [Mix.mixed, mixFor_tapFrom, tapTo, length, State.tappedFor, getD_tap_tapped _ _ reach h, State.heardBy]
  push_cast
  ring

/-- R83, R89: at a MOVING crosspoint it is of the samples at F and at T. -/
theorem mixed_moving {m : Move} (moving : (s.crosspoint (crosspointOf i z)).move = some m)
    (reach : (s.crosspoint (crosspointOf i z)).activeDelay ≤ 16383) (reachTo : m.dest ≤ 16383) {n : ℕ} (h : n < 48) :
    (s.mixFor audio z i).mixed n
      = (48 * (m.length : ℤ) - (48 * (m.elapsed : ℤ) + (n : ℤ) + 1))
          * (s.heardBy audio i).getD (47 - n + (s.crosspoint (crosspointOf i z)).activeDelay) 0
        + (48 * (m.elapsed : ℤ) + (n : ℤ) + 1) * (s.heardBy audio i).getD (47 - n + m.dest) 0 := by
  obtain ⟨tapTo, step, length⟩ := mixFor_moving s audio z i moving
  rw [Mix.mixed, mixFor_tapFrom, tapTo, length, State.tappedFor, getD_tap_tapped _ _ reach h,
    getD_tap_tapped _ _ reachTo h, State.heardBy, Mix.parts, step, Nat.add_sub_cancel]
  push_cast
  ring

/-- R83: the exact tap of a STEADY crosspoint. -/
theorem mixed_div_steady (steady : (s.crosspoint (crosspointOf i z)).move = none)
    (reach : (s.crosspoint (crosspointOf i z)).activeDelay ≤ 16383) {n : ℕ} (h : n < 48) :
    ((s.mixFor audio z i).mixed n : ℝ) / (48 * (s.mixFor audio z i).length : ℕ)
      = ((s.heardBy audio i).getD (47 - n + (s.crosspoint (crosspointOf i z)).activeDelay) 0 : ℤ) := by
  rw [mixed_steady s audio z i steady reach h, (mixFor_steady s audio z i steady).2.2]
  push_cast
  ring

/-- R83: the exact crossfade of a MOVING crosspoint. -/
theorem mixed_div_moving {m : Move} (moving : (s.crosspoint (crosspointOf i z)).move = some m)
    (running : m.elapsed < m.length) (reach : (s.crosspoint (crosspointOf i z)).activeDelay ≤ 16383)
    (reachTo : m.dest ≤ 16383) {n : ℕ} (h : n < 48) :
    ((s.mixFor audio z i).mixed n : ℝ) / (48 * (s.mixFor audio z i).length : ℕ)
      = (1 - (48 * (m.elapsed : ℝ) + (n : ℝ) + 1) / (48 * (m.length : ℝ)))
          * ((s.heardBy audio i).getD (47 - n + (s.crosspoint (crosspointOf i z)).activeDelay) 0 : ℤ)
        + (48 * (m.elapsed : ℝ) + (n : ℝ) + 1) / (48 * (m.length : ℝ))
          * ((s.heardBy audio i).getD (47 - n + m.dest) 0 : ℤ) := by
  have length0 : (m.length : ℝ) ≠ 0 := by exact_mod_cast Nat.ne_of_gt (Nat.zero_lt_of_lt running)
  rw [mixed_moving s audio z i moving reach reachTo h, (mixFor_moving s audio z i moving).2.2]
  push_cast
  field_simp

end

/-- R90: the sum is of 48 samples, each that of the 24 contributions, held at full scale. -/
theorem crosspointSum_samples (z : Fin 16) :
    (s.crosspointSum audio z).length = 48
      ∧ ∀ n < 48, (s.crosspointSum audio z).getD n 0 = limitToFullScale (∑ i, (s.mixFor audio z i).given n) := by
  have each : ∀ m ∈ ((List.finRange 24).map (s.mixFor audio z)).filter fun m => !m.silent,
      m.contribution.length = 48 := by
    intro m hm
    obtain ⟨i, _, rfl⟩ := List.mem_map.1 (List.mem_of_mem_filter hm)
    exact length_contribution s audio _
  obtain ⟨length, samples⟩ := foldl_addFrames _ each (List.length_replicate (n := 48) (a := (0 : ℤ)))
  refine ⟨(List.length_map _).trans length, fun n h => ?_⟩
  have given := samples n h
  rw [sum_map_contribution, List.map_map, ← Fin.sum_univ_def, List.getD_replicate _ h, zero_add] at given
  exact (getD_map_limitToFullScale _ n).trans (congrArg limitToFullScale given)
  
end

end Sys2Proof.Machine
end

section
/-! SUPPORT. R83, R90, R91: how near a contribution comes to its exact value, and what the plan's frame step puts out of
each zone. -/

namespace Sys2Proof.Machine

/-! ### One contribution against its exact value (log 13) -/

/-- Two factors that are each within u of the exact ones. -/
theorem abs_mul_mul_sub_le {τ g h a b full u : ℝ} (hτ : |τ| ≤ full) (hg : |g - a| ≤ u) (hh : |h - b| ≤ u)
    (ha : 0 ≤ a) (hb : 0 ≤ b) : |τ * g * h - τ * a * b| ≤ full * (u * (a + b) + u * u) := by
  have u0 : 0 ≤ u := (abs_nonneg _).trans hg
  have split : τ * g * h - τ * a * b = τ * ((g - a) * b + a * (h - b) + (g - a) * (h - b)) := by ring
  have first : |(g - a) * b| ≤ u * b := by
    rw [abs_mul, abs_of_nonneg hb]; exact mul_le_mul_of_nonneg_right hg hb
  have second : |a * (h - b)| ≤ a * u := by
    rw [abs_mul, abs_of_nonneg ha]; exact mul_le_mul_of_nonneg_left hh ha
  have both : |(g - a) * (h - b)| ≤ u * u := by
    rw [abs_mul]; exact mul_le_mul hg hh (abs_nonneg _) u0
  have sum : |(g - a) * b + a * (h - b) + (g - a) * (h - b)| ≤ u * (a + b) + u * u := by
    refine (abs_add_le _ _).trans ((add_le_add ((abs_add_le _ _).trans (add_le_add first second)) both).trans_eq ?_)
    ring
  rw [split, abs_mul]
  exact mul_le_mul hτ sum (abs_nonneg _) ((abs_nonneg _).trans hτ)

theorem glideReal_floor (n : ℕ) : glideReal (-1000) (-1000) n = 0 := by simp [glideReal, amplitudeReal]

section
variable {m : Mix} (sound : m.Sound) {n : ℕ} (h : n < 48)
include sound h

/-- R90: a contribution is within 2 units, and twice its two amplitudes, of the exact one; silence is exact. -/
theorem abs_given_sub_le {active gate : ℝ} (ha : active = glideReal m.gainBefore m.gainAfter n)
    (hg : gate = glideReal m.gateBefore m.gateAfter n)
    (hFrom : (m.tapFrom.getD n 0).natAbs ≤ Config.fullScale) (hTo : (m.tapTo.getD n 0).natAbs ≤ Config.fullScale) :
    |(m.given n : ℝ) - m.mixed n / (48 * m.length : ℕ) * active * gate|
      ≤ if m.silent = true then 0 else 2 * (active + gate) + 2 := by
  split
  · next silent =>
    rw [given_silent m silent, ha, hg]
    rcases (silent_iff m).1 silent with ⟨before, after⟩ | ⟨before, after⟩ <;>
      simp [before, after, glideReal_floor]
  · next loud =>
    rw [Bool.not_eq_true] at loud
    have active0 : 0 ≤ active := ha ▸ glideReal_nonneg _ _ h
    have gate0 : 0 ≤ gate := hg ▸ glideReal_nonneg _ _ h
    have length0 : (0 : ℝ) < (48 * m.length : ℕ) := by exact_mod_cast Nat.mul_pos (by norm_num) sound.length_pos
    have unit0 : (0 : ℝ) < 48 * Config.amplitudeUnit := by norm_num [Config.amplitudeUnit]
    have tapped : |(m.mixed n : ℝ) / (48 * m.length : ℕ)| ≤ Config.fullScale := by
      rw [abs_div, abs_of_pos length0, div_le_iff₀ length0, abs_intCast, mul_comm]
      exact_mod_cast sound.natAbs_mixed_le h hFrom hTo
    have gains := abs_mul_mul_sub_le tapped (ha ▸ abs_glide_sub_le m.gainBefore m.gainAfter h)
      (hg ▸ abs_glide_sub_le m.gateBefore m.gateAfter h) active0 gate0
    have rounding := abs_roundedQuotient_sub_lt sound.den_pos
      (num := m.mixed n * amplitudeAt m.gainBefore m.gainAfter n * amplitudeAt m.gateBefore m.gateAfter n)
    rw [← sound.given loud h] at rounding
    have quotient : ((m.mixed n * amplitudeAt m.gainBefore m.gainAfter n * amplitudeAt m.gateBefore m.gateAfter n : ℤ) : ℝ)
          / (48 * m.length * (48 * Config.amplitudeUnit) * (48 * Config.amplitudeUnit) : ℕ)
        = (m.mixed n : ℝ) / (48 * m.length : ℕ)
          * (glide (amplitude m.gainBefore) (amplitude m.gainAfter) (n + 1) / (48 * Config.amplitudeUnit))
          * (glide (amplitude m.gateBefore) (amplitude m.gateAfter) (n + 1) / (48 * Config.amplitudeUnit)) := by
      unfold amplitudeAt
      push_cast at length0 ⊢
      field_simp
    rw [quotient] at rounding
    have units : (Config.fullScale : ℝ)
        * (1 / Config.amplitudeUnit * (active + gate) + 1 / Config.amplitudeUnit * (1 / Config.amplitudeUnit))
        ≤ 2 * (active + gate) + 1 := by
      norm_num [Config.fullScale, Config.amplitudeUnit]
      linarith
    exact (abs_sub_le _ _ _).trans ((add_le_add rounding.le (gains.trans units)).trans (by linarith))

/-- R90: with both gains at 0 td throughout, a contribution is its crossfaded tap, rounded. -/
theorem given_unity (hb : m.gainBefore = 0) (ha : m.gainAfter = 0) (gb : m.gateBefore = 0) (ga : m.gateAfter = 0) :
    (48 * m.length * m.given n - m.mixed n).natAbs < 48 * m.length
      ∧ ∀ full : ℕ, (m.mixed n).natAbs ≤ 48 * m.length * full → (m.given n).natAbs ≤ full := by
  have loud : m.silent = false := by simp [Mix.silent, hb, ha, gb, ga]
  have unity : amplitudeAt 0 0 n = 48 * Config.amplitudeUnit := by
    rw [amplitudeAt, amplitude_zero, glide_same _ _ (by omega)]
  have given := sound.given loud h
  rw [hb, ha, gb, ga, unity] at given
  obtain ⟨c, hc⟩ : ∃ c, c = 48 * Config.amplitudeUnit * (48 * Config.amplitudeUnit) := ⟨_, rfl⟩
  have c0 : 0 < c := by rw [hc]; norm_num [Config.amplitudeUnit]
  have num : m.mixed n * (48 * Config.amplitudeUnit : ℕ) * (48 * Config.amplitudeUnit : ℕ) = m.mixed n * c := by
    rw [hc]; push_cast; ring
  have den : 48 * m.length * (48 * Config.amplitudeUnit) * (48 * Config.amplitudeUnit) = 48 * m.length * c := by
    rw [hc]; ring
  have den0 := sound.den_pos
  rw [num, den] at given
  rw [den] at den0
  constructor
  · have close := natAbs_mul_roundedQuotient_sub_lt den0 (num := m.mixed n * c)
    rw [← given] at close
    have scaled : ((48 * m.length * c : ℕ) : ℤ) * m.given n - m.mixed n * c
        = (48 * m.length * m.given n - m.mixed n) * c := by push_cast; ring
    rw [scaled, Int.natAbs_mul, Int.natAbs_natCast] at close
    exact Nat.lt_of_mul_lt_mul_right close
  · intro full hfull
    have c0' : (0 : ℤ) ≤ c := by omega
    have bounds : -((48 * m.length * full : ℕ) : ℤ) ≤ m.mixed n ∧ m.mixed n ≤ (48 * m.length * full : ℕ) := by omega
    have low : -(full : ℤ) ≤ m.given n := by
      rw [given]
      refine le_roundedQuotient den0 ((Eq.le ?_).trans (mul_le_mul_of_nonneg_right bounds.1 c0'))
      push_cast; ring
    have high : m.given n ≤ full := by
      rw [given]
      refine roundedQuotient_le den0 ((mul_le_mul_of_nonneg_right bounds.2 c0').trans (Eq.le ?_))
      push_cast; ring
    omega

end

end Sys2Proof.Machine
end

section
/-! PROOFS. O43: the zones' sums and outputs of a plan step. -/

namespace Sys2Proof.Machine

/-! ### What a plan step writes (R78, R90, R91) -/

theorem endMove_activeGain (p : Crosspoint) (inaudible : Bool) (frames : Nat) :
    (p.endMove inaudible frames).activeGain = p.activeGain := by
  unfold Crosspoint.endMove
  split
  · rfl
  · dsimp only
    split
    · rfl
    · exact arrive_activeGain ..

theorem settleMove_activeGain (s : State) (x : Fin 384) (p : Crosspoint) :
    (s.settleMove x p).activeGain = p.activeGain := by
  unfold State.settleMove
  split
  · exact endMove_activeGain ..
  · rfl

section
variable (s : State) (audio : AudioFrame) (z : Fin 16)

@[simp] theorem planFrameStep_input (i : Fin 24) :
    (s.planFrameStep audio).input i = { s.input i with gainUsed := (s.input i).gain } := Table.get_mapIdx ..

@[simp] theorem planFrameStep_zone :
    (s.planFrameStep audio).zone z
      = { s.zone z with sum := s.crosspointSum audio z, output := s.zoneOutput audio z } := Table.get_mapIdx ..

@[simp] theorem planFrameStep_crosspoint (x : Fin 384) :
    (s.planFrameStep audio).crosspoint x = s.stepped x (s.crosspoint x) := Table.get_mapIdx ..

/-- R78: the gain to which a contribution moves is the one that the step leaves. -/
theorem planFrameStep_activeGain (i : Fin 24) :
    ((s.planFrameStep audio).crosspoint (crosspointOf i z)).activeGain = (s.mixFor audio z i).gainAfter := by
  rw [planFrameStep_crosspoint]
  exact settleMove_activeGain ..

/-! ### The sum (R90) -/

theorem natAbs_le_of_mem_crosspointSum {x : ℤ} (h : x ∈ s.crosspointSum audio z) :
    x.natAbs ≤ Config.fullScale := by
  obtain ⟨y, _, rfl⟩ := List.mem_map.1 h
  exact natAbs_limitToFullScale_le y

/-- R90: a crosspoint that stays at the floor is silence. -/
theorem mixFor_silent {i : Fin 24} (h : (s.crosspoint (crosspointOf i z)).activeGain = -1000
    ∧ (s.crosspoint (crosspointOf i z)).targetGain = -1000) : (s.mixFor audio z i).silent = true := by
  rw [silent_iff, mixFor_gainBefore, mixFor_gainAfter, h.1, h.2]
  exact .inl ⟨rfl, if_pos rfl⟩

theorem crosspointSum_silent (h : ∀ i, (s.mixFor audio z i).silent = true) :
    s.crosspointSum audio z = List.replicate 48 0 := by
  have none : ((List.finRange 24).map (s.mixFor audio z)).filter (fun m => !m.silent) = [] := by
    simp [List.filter_eq_nil_iff, h]
  calc s.crosspointSum audio z
      = ((((List.finRange 24).map (s.mixFor audio z)).filter fun m => !m.silent).foldl
          (fun sum m => addFrames sum m.contribution) (List.replicate 48 0)).map limitToFullScale := rfl
    _ = List.replicate 48 0 := by
      rw [none, List.foldl_nil, List.map_replicate, limitToFullScale_zero]

/-- R90: the sum of one contribution alone is that contribution, held at full scale. -/
theorem crosspointSum_alone {i : Fin 24} (others : ∀ j, j ≠ i → (s.mixFor audio z j).silent = true) {n : ℕ}
    (h : n < 48) :
    (s.crosspointSum audio z).getD n 0 = limitToFullScale ((s.mixFor audio z i).given n) := by
  rw [(crosspointSum_samples s audio z).2 n h,
    Finset.sum_eq_single i (fun j _ ne => given_silent _ (others j ne) n) (fun absent => absurd (Finset.mem_univ i) absent)]

section
variable {s audio z}

/-- The samples that a contribution crosses over are within full scale. -/
theorem natAbs_taps_le {i : Fin 24} {n : ℕ} (h : n < 48)
    (heard : ∀ x ∈ s.heardBy audio i, x.natAbs ≤ Config.fullScale)
    (reach : (s.crosspoint (crosspointOf i z)).activeDelay ≤ 16383)
    (reachTo : ∀ m, (s.crosspoint (crosspointOf i z)).move = some m → m.dest ≤ 16383) :
    ((s.mixFor audio z i).tapFrom.getD n 0).natAbs ≤ Config.fullScale
      ∧ ((s.mixFor audio z i).tapTo.getD n 0).natAbs ≤ Config.fullScale := by
  have within (delay : ℕ) (hd : delay ≤ 16383) :
      ((tap (s.tappedFor audio i) delay).getD n 0).natAbs ≤ Config.fullScale := by
    rw [State.tappedFor, getD_tap_tapped _ _ hd h]
    exact natAbs_getD_le heard _
  rw [mixFor_tapFrom]
  refine ⟨within _ reach, ?_⟩
  cases move : (s.crosspoint (crosspointOf i z)).move with
  | none => rw [(mixFor_steady s audio z i move).1]; exact within _ reach
  | some m => rw [(mixFor_moving s audio z i move).1]; exact within _ (reachTo m move)

/-- R83, R90: the sum of one crosspoint alone at 0 td is its crossfaded tap, within one unit. -/
theorem crosspointSum_unity {i : Fin 24}
    (others : ∀ j, j ≠ i → (s.crosspoint (crosspointOf j z)).activeGain = -1000
      ∧ (s.crosspoint (crosspointOf j z)).targetGain = -1000)
    (active : (s.crosspoint (crosspointOf i z)).activeGain = 0)
    (target : (s.crosspoint (crosspointOf i z)).targetGain = 0) (gain : (s.input i).gain = 0)
    (used : (s.input i).gainUsed = 0)
    (moves : ∀ m, (s.crosspoint (crosspointOf i z)).move = some m → m.dest ≤ 16383 ∧ m.elapsed < m.length)
    (reach : (s.crosspoint (crosspointOf i z)).activeDelay ≤ 16383)
    (heard : ∀ x ∈ s.heardBy audio i, x.natAbs ≤ Config.fullScale) {n : ℕ} (h : n < 48) :
    (48 * (s.mixFor audio z i).length * (s.crosspointSum audio z).getD n 0 - (s.mixFor audio z i).mixed n).natAbs
      < 48 * (s.mixFor audio z i).length := by
  have sound := mixFor_sound s audio z i fun m hm => (moves m hm).2
  have taps := natAbs_taps_le h heard reach fun m hm => (moves m hm).1
  have ramped : (s.mixFor audio z i).gainAfter = 0 := by
    rw [mixFor_gainAfter, active, target]
    exact if_pos rfl
  have unity := given_unity sound h active ramped ((mixFor_gateBefore ..).trans used) ((mixFor_gateAfter ..).trans gain)
  rw [crosspointSum_alone s audio z (fun j ne => mixFor_silent s audio z (others j ne)) h,
    limitToFullScale_of_le (unity.2 _ (sound.natAbs_mixed_le h taps.1 taps.2))]
  exact unity.1

/-- R83, R90: of one STEADY crosspoint alone at 0 td it is that tap. -/
theorem crosspointSum_unity_steady {i : Fin 24}
    (others : ∀ j, j ≠ i → (s.crosspoint (crosspointOf j z)).activeGain = -1000
      ∧ (s.crosspoint (crosspointOf j z)).targetGain = -1000)
    (active : (s.crosspoint (crosspointOf i z)).activeGain = 0)
    (target : (s.crosspoint (crosspointOf i z)).targetGain = 0)
    (steady : (s.crosspoint (crosspointOf i z)).move = none) (gain : (s.input i).gain = 0)
    (used : (s.input i).gainUsed = 0) (reach : (s.crosspoint (crosspointOf i z)).activeDelay ≤ 16383)
    (heard : ∀ x ∈ s.heardBy audio i, x.natAbs ≤ Config.fullScale) {n : ℕ} (h : n < 48) :
    (s.crosspointSum audio z).getD n 0
      = (s.heardBy audio i).getD (47 - n + (s.crosspoint (crosspointOf i z)).activeDelay) 0 := by
  have close := crosspointSum_unity others active target gain used
    (fun m moving => nomatch steady.symm.trans moving) reach heard h
  rw [mixed_steady s audio z i steady reach h, (mixFor_steady s audio z i steady).2.2] at close
  omega

/-- R90: the sum is near the exact sum, held at full scale (log 13). -/
theorem abs_crosspointSum_sub_le {tapped active gate off : Fin 24 → ℝ} {n : ℕ} (h : n < 48)
    (heard : ∀ i, ∀ x ∈ s.heardBy audio i, x.natAbs ≤ Config.fullScale)
    (reach : ∀ i, (s.crosspoint (crosspointOf i z)).activeDelay ≤ 16383)
    (moves : ∀ i m, (s.crosspoint (crosspointOf i z)).move = some m → m.dest ≤ 16383 ∧ m.elapsed < m.length)
    (htapped : ∀ i, tapped i = (s.mixFor audio z i).mixed n / (48 * (s.mixFor audio z i).length : ℕ))
    (hactive : ∀ i, active i = glideReal (s.mixFor audio z i).gainBefore (s.mixFor audio z i).gainAfter n)
    (hgate : ∀ i, gate i = glideReal (s.mixFor audio z i).gateBefore (s.mixFor audio z i).gateAfter n)
    (hoff : ∀ i, off i = if (s.mixFor audio z i).silent = true then 0 else 2 * (active i + gate i) + 2) :
    |((s.crosspointSum audio z).getD n 0 : ℝ)
        - max (-(Config.fullScale : ℝ)) (min (Config.fullScale : ℝ) (∑ i, tapped i * active i * gate i))|
      ≤ ∑ i, off i := by
  have each (i : Fin 24) : |((s.mixFor audio z i).given n : ℝ) - tapped i * active i * gate i| ≤ off i := by
    have taps := natAbs_taps_le h (heard i) (reach i) fun m hm => (moves i m hm).1
    rw [htapped, hoff]
    exact abs_given_sub_le (mixFor_sound s audio z i fun m hm => (moves i m hm).2) h (hactive i) (hgate i)
      taps.1 taps.2
  rw [(crosspointSum_samples s audio z).2 n h]
  refine (abs_limitToFullScale_sub_le _ _).trans ?_
  rw [Int.cast_sum, ← Finset.sum_sub_distrib]
  exact (Finset.abs_sum_le_sum_abs _ _).trans (Finset.sum_le_sum fun i _ => each i)

end

/-! ### The output (R91, R147) -/

theorem zoneOutput_crosspointSum (h : (s.zone z).selected = .crosspointSum) :
    s.zoneOutput audio z = s.crosspointSum audio z := by
  rw [State.zoneOutput, h]

theorem zoneOutput_alarmSource (h : (s.zone z).selected = .alarmSource) :
    s.zoneOutput audio z = audio.source.map (scaleSample (s.zone z).levelInEffect) := by
  rw [State.zoneOutput, h]

/-- R147: at an alarm level of 0 the alarm source is unchanged. -/
theorem map_scaleSample_zero {samples : List ℤ} (h : ∀ x ∈ samples, x.natAbs ≤ Config.fullScale) :
    samples.map (scaleSample 0) = samples :=
  (List.map_congr_left fun x hx => scaleSample_zero (h x hx)).trans (List.map_id _)

end

end Sys2Proof.Machine

namespace Sys2Proof.Proofs

open Sys2Proof Sys2Proof.Machine Sys2Proof.Safety

/-- Settles O43: clause by clause, from the samples of the sum (`crosspointSum_samples`), its distance from the exact
sum (`crosspointSum_unity`, `abs_crosspointSum_sub_le`) and the scaled samples (`scaleSample_beyond`,
`scaleSample_within`). -/
theorem zoneOutputsFollowTheirSelectors : Obligations.ZoneOutputsFollowTheirSelectors := by
  intro s audio powered
  have stepped := whenPowered_powered s (fun s => s.planFrameStep audio) powered
  refine ⟨s.planFrameStep audio, stepped, fun i => by rw [planFrameStep_input], fun z => ?_⟩
  rw [planFrameStep_zone]
  refine ⟨(crosspointSum_samples s audio z).1, fun x => natAbs_le_of_mem_crosspointSum s audio z,
    fun floor => crosspointSum_silent s audio z fun i => mixFor_silent s audio z (floor i), ?alone, ?crossfade, ?sum,
    zoneOutput_crosspointSum s audio z, ?level, ?alarm⟩
  case alone =>
    rintro i others active target steady gain used delay rfl reach heard rfl full n h
    exact crosspointSum_unity_steady others active target steady gain used reach full h
  case crossfade =>
    rintro i m others active target moving running gain used delay rfl reach reachTo heard rfl full n h whole parts
      rfl rfl
    have moves : ∀ m', (s.crosspoint (crosspointOf i z)).move = some m' → m'.dest ≤ 16383 ∧ m'.elapsed < m'.length := by
      intro m' moving'
      cases moving.symm.trans moving'
      exact ⟨reachTo, running⟩
    have close := crosspointSum_unity others active target gain used moves reach full h
    rwa [mixed_moving s audio z i moving reach reachTo h, (mixFor_moving s audio z i moving).2.2] at close
  case sum =>
    intro heard hheard full reach moves amplitudeOf hamplitude moved hmoved tapped active gate off hsteady hmoving
      hactive hgate hoff n h exact_ hexact
    obtain rfl : heard = s.heardBy audio := funext hheard
    have glides (before after : ℤ) : moved before after n = glideReal before after n := by
      rw [hmoved, hamplitude, hamplitude]; rfl
    rw [hexact]
    refine abs_crosspointSum_sub_le h full reach moves (fun i => ?_) (fun i => ?_) (fun i => ?_) fun i => ?_
    · cases move : (s.crosspoint (crosspointOf i z)).move with
      | none => rw [hsteady i n move, mixed_div_steady s audio z i move (reach i) h]
      | some m =>
        obtain ⟨reachTo, running⟩ := moves i m move
        rw [hmoving i n m move _ rfl, mixed_div_moving s audio z i move running (reach i) reachTo h]
    · rw [hactive, glides, planFrameStep_activeGain, mixFor_gainBefore]
    · rw [hgate, glides, mixFor_gateBefore, mixFor_gateAfter]
    · rw [hoff, planFrameStep_activeGain]
      simp only [silent_iff, mixFor_gainBefore, mixFor_gateBefore, mixFor_gateAfter]
  case level =>
    intro alarm level full
    exact (zoneOutput_alarmSource s audio z alarm).trans (level ▸ map_scaleSample_zero full)
  case alarm =>
    intro alarm
    dsimp only
    rw [zoneOutput_alarmSource s audio z alarm]
    refine ⟨List.length_map _, fun n x y hx hy v hv => ?_⟩
    rw [List.getElem?_map, hx, Option.map_some, Option.some.injEq] at hy
    subst hy hv
    exact ⟨scaleSample_beyond, scaleSample_within⟩

end Sys2Proof.Proofs
end

section
/-! SUPPORT. R17, R19, R20: what hands delay targets over, and what leaves the live geometry, the delay targets and the
clamp flags as they are. -/

namespace Sys2Proof.Machine

open Sys2Proof.Safety

/-- R17: the delay target and the clamp flag of a crosspoint are those of the live geometry. -/
def Timed (s : State) (x : Fin 384) : Prop :=
  (s.crosspoint x).targetDelay = min (s.delaySumOf x) 16383
    ∧ ((s.crosspoint x).clamp = true ↔ 16383 < s.delaySumOf x)

theorem delayTargetsCurrent_iff {s : State} : DelayTargetsCurrent s ↔ ∀ x, Timed s x := Iff.rfl

/-- From `s` to `t` what the live geometry gives a crosspoint, its delay target and its clamp flag stand. -/
structure TimingStands (s t : State) (x : Fin 384) : Prop where
  sum : t.delaySumOf x = s.delaySumOf x
  target : (t.crosspoint x).targetDelay = (s.crosspoint x).targetDelay
  clamp : (t.crosspoint x).clamp = (s.crosspoint x).clamp

/-- `TimingStands` at every crosspoint. -/
structure KeepsTiming (s t : State) : Prop where
  stands : ∀ x, TimingStands s t x

section
variable {s t u : State} {x : Fin 384}

theorem TimingStands.refl (s : State) (x : Fin 384) : TimingStands s s x := ⟨rfl, rfl, rfl⟩

theorem TimingStands.trans (h : TimingStands s t x) (k : TimingStands t u x) : TimingStands s u x :=
  ⟨k.sum.trans h.sum, k.target.trans h.target, k.clamp.trans h.clamp⟩

theorem TimingStands.timed (h : TimingStands s t x) (current : Timed s x) : Timed t x := by
  unfold Timed
  rwa [h.sum, h.target, h.clamp]

theorem KeepsTiming.refl (s : State) : KeepsTiming s s := ⟨TimingStands.refl s⟩

theorem KeepsTiming.trans (h : KeepsTiming s t) (k : KeepsTiming t u) : KeepsTiming s u :=
  ⟨fun x => (h.stands x).trans (k.stands x)⟩

theorem KeepsTiming.current (h : KeepsTiming s t) (current : DelayTargetsCurrent s) : DelayTargetsCurrent t :=
  fun x => (h.stands x).timed (current x)

theorem KeepsTiming.ite {c : Prop} [Decidable c] (h : KeepsTiming s t) (k : KeepsTiming s u) :
    KeepsTiming s (if c then t else u) := by
  split
  · exact h
  · exact k

/-- R16, R17: what a delay sum is made of. -/
theorem delaySumOf_congr (station : (t.input (inputOf x)).settings.station = (s.input (inputOf x)).settings.station)
    (stations : t.stations = s.stations)
    (geometry : (t.zone (zoneOf x)).geometry = (s.zone (zoneOf x)).geometry) (used : t.used = s.used) :
    t.delaySumOf x = s.delaySumOf x := by
  unfold State.delaySumOf State.talker State.station
  rw [station, stations, geometry, used]

/-- What leaves the inputs, the zones, the geometry and the records alone keeps the timing. -/
theorem KeepsTiming.of_same (inputs : t.inputs = s.inputs) (zones : t.zones = s.zones)
    (stations : t.stations = s.stations) (used : t.used = s.used) (records : t.crosspoints = s.crosspoints) :
    KeepsTiming s t where
  stands x :=
    ⟨delaySumOf_congr (by simp only [State.input, inputs]) stations (by simp only [State.zone, zones]) used,
      by simp only [State.crosspoint, records], by simp only [State.crosspoint, records]⟩

/-- What only changes how inputs and areas stand keeps the timing if it keeps the stations of the inputs. -/
theorem OnlyLists.keepsTiming (h : OnlyLists s t)
    (station : ∀ i, (t.input i).settings.station = (s.input i).settings.station) : KeepsTiming s t := by
  obtain ⟨_, _, _, _, rfl⟩ := h
  exact ⟨fun x => ⟨delaySumOf_congr (station _) rfl rfl rfl, rfl, rfl⟩⟩

theorem OnlyNotices.keepsTiming (h : OnlyNotices s t) : KeepsTiming s t := by
  obtain ⟨_, _, rfl⟩ := h
  exact .of_same rfl rfl rfl rfl rfl

/-- What only changes the plan gives every crosspoint the same delay sum. -/
theorem OnlyPlan.delaySumOf (h : OnlyPlan s t) (x : Fin 384) : t.delaySumOf x = s.delaySumOf x := by
  obtain ⟨_, _, _, rfl⟩ := h
  exact delaySumOf_congr rfl rfl rfl rfl

end

variable (s : State)

theorem raise_keepsTiming (k : NoticeKind) (n : Nat) (v : Int) : KeepsTiming s (s.raise k n v) :=
  (raise_onlyNotices s k n v).keepsTiming

theorem setLine_keepsTiming (line : Line) (l : LineState) : KeepsTiming s (s.setLine line l) :=
  .of_same (by simp) (by simp) (by simp) (by simp) (by simp)

theorem setArea_keepsTiming (k : Area) (u : AreaUnit) : KeepsTiming s (s.setArea k u) := .of_same rfl rfl rfl rfl rfl

theorem setPanel_keepsTiming (n : Fin 8) (p : Panel) : KeepsTiming s (s.setPanel n p) := .of_same rfl rfl rfl rfl rfl

theorem setInput_timingStands {i : Fin 24} {y : Input} {x : Fin 384}
    (h : i = inputOf x → y.settings.station = (s.input i).settings.station) : TimingStands s (s.setInput i y) x := by
  refine ⟨delaySumOf_congr ?_ rfl rfl rfl, rfl, rfl⟩
  rw [setInput_input]
  split
  · next same => exact same ▸ h same
  · rfl

theorem setInput_keepsTiming {i : Fin 24} {y : Input} (h : y.settings.station = (s.input i).settings.station) :
    KeepsTiming s (s.setInput i y) := ⟨fun _ => setInput_timingStands s fun _ => h⟩

theorem setZone_timingStands {z : Fin 16} {y : Zone} {x : Fin 384}
    (h : z = zoneOf x → y.geometry = (s.zone z).geometry) : TimingStands s (s.setZone z y) x := by
  refine ⟨delaySumOf_congr rfl rfl ?_ rfl, rfl, rfl⟩
  rw [setZone_zone]
  split
  · next same => exact same ▸ h same
  · rfl

theorem setZone_keepsTiming {z : Fin 16} {y : Zone} (h : y.geometry = (s.zone z).geometry) :
    KeepsTiming s (s.setZone z y) := ⟨fun _ => setZone_timingStands s fun _ => h⟩

/-- An operation on zones that keeps their geometry. -/
theorem mapZones_keepsTiming {f : Fin 16 → Zone → Zone} (h : ∀ z y, (f z y).geometry = y.geometry) :
    KeepsTiming s { s with zones := s.zones.mapIdx f } where
  stands _ := ⟨delaySumOf_congr rfl rfl (by simp only [State.zone, Table.get_mapIdx, h]) rfl, rfl, rfl⟩

theorem mapInputs_keepsTiming {f : Fin 24 → Input → Input} (h : ∀ i y, (f i y).settings = y.settings) :
    KeepsTiming s { s with inputs := s.inputs.mapIdx f } where
  stands _ := ⟨delaySumOf_congr (by simp only [State.input, Table.get_mapIdx, h]) rfl rfl rfl, rfl, rfl⟩

theorem updateCrosspoints_keepsTiming (which : Fin 384 → Bool) {f : Fin 384 → Crosspoint → Crosspoint}
    (h : ∀ x p, (f x p).targetDelay = p.targetDelay ∧ (f x p).clamp = p.clamp) :
    KeepsTiming s (s.updateCrosspoints which f) := by
  refine ⟨fun x => ⟨(updateCrosspoints_onlyPlan ..).delaySumOf x, ?_, ?_⟩⟩ <;> rw [updateCrosspoints_crosspoint] <;>
    split
  · exact (h x _).1
  · rfl
  · exact (h x _).2
  · rfl

/-! ### Recomputes (R17 to R20) -/

theorem raiseClamped_foldl_onlyNotices (xs : List (Fin 384)) : OnlyNotices s (xs.foldl State.raiseClamped s) :=
  foldl_touches OnlyNotices.refl OnlyNotices.trans _ raiseClamped_onlyNotices xs s

/-- What a recompute leaves of a crosspoint's record. -/
theorem retime_crosspoint (which : Fin 384 → Bool) (x : Fin 384) :
    (s.retime which).crosspoint x = if which x then s.retimed x (s.crosspoint x) else s.crosspoint x := by
  obtain ⟨_, _, h⟩ := raiseClamped_foldl_onlyNotices (s.updateCrosspoints which s.retimed)
    ((List.finRange 384).filter which)
  rw [State.retime, h]
  exact updateCrosspoints_crosspoint s which s.retimed x

@[simp] theorem retime_delaySumOf (which : Fin 384 → Bool) (x : Fin 384) :
    (s.retime which).delaySumOf x = s.delaySumOf x := (retime_onlyPlan s which).delaySumOf x

/-- R17, R20: the crosspoints of a recompute have the delay targets and clamp flags of the live geometry. -/
theorem retime_timed {which : Fin 384 → Bool} {x : Fin 384} (h : which x = true) : Timed (s.retime which) x := by
  unfold Timed
  rw [retime_delaySumOf, retime_crosspoint, if_pos h]
  simp [State.retimed]

/-- A recompute leaves all other crosspoints. -/
theorem retime_timingStands {which : Fin 384 → Bool} {x : Fin 384} (h : which x = false) :
    TimingStands s (s.retime which) x := by
  have same : (s.retime which).crosspoint x = s.crosspoint x := by simp [retime_crosspoint, h]
  exact ⟨retime_delaySumOf s which x, by rw [same], by rw [same]⟩

end Sys2Proof.Machine
end

section
/-! SUPPORT. R19 to R22: every operation over the part's state keeps the delay targets and the clamp flags what the live
geometry gives, or hands new ones over. -/

namespace Sys2Proof.Machine

open Sys2Proof.Safety

variable (s : State)

/-! ### The plan (R68 to R88) -/

theorem recompose_keepsTiming (which : Fin 384 → Bool) : KeepsTiming s (s.recompose which) :=
  updateCrosspoints_keepsTiming s which fun _ _ => ⟨rfl, rfl⟩

theorem relive_keepsTiming (which : Fin 384 → Bool) : KeepsTiming s (s.relive which) :=
  updateCrosspoints_keepsTiming s which fun _ _ => ⟨rfl, rfl⟩

theorem reevaluate_keepsTiming (which : Fin 384 → Bool) : KeepsTiming s (s.reevaluate which) :=
  (relive_keepsTiming s which).trans (recompose_keepsTiming _ which)

theorem snapAll_keepsTiming : KeepsTiming s s.snapAll := updateCrosspoints_keepsTiming s _ fun _ _ => ⟨rfl, rfl⟩

theorem snapToTargets_keepsTiming (which : Fin 384 → Bool) : KeepsTiming s (s.snapToTargets which) :=
  updateCrosspoints_keepsTiming s which fun _ _ => ⟨rfl, rfl⟩

theorem floorReset_keepsTiming : KeepsTiming s s.floorReset := updateCrosspoints_keepsTiming s _ fun _ _ => ⟨rfl, rfl⟩

/-- R84: the end of a move takes up the pending delay, which is the target of a sound record. -/
theorem endMove_timing {p : Crosspoint} (pending : ∀ q, p.pendingDelay = some q → p.targetDelay = q)
    (inaudible : Bool) (frames : Nat) :
    (p.endMove inaudible frames).targetDelay = p.targetDelay ∧ (p.endMove inaudible frames).clamp = p.clamp := by
  unfold Crosspoint.endMove
  split
  · exact ⟨rfl, rfl⟩
  · dsimp only
    split
    · exact ⟨rfl, rfl⟩
    · next q hq => exact ⟨(arrive_targetDelay ..).trans (pending q hq).symm, arrive_clamp ..⟩

theorem settleMove_timing (x : Fin 384) {p : Crosspoint}
    (pending : ∀ q, p.pendingDelay = some q → p.targetDelay = q) :
    (s.settleMove x p).targetDelay = p.targetDelay ∧ (s.settleMove x p).clamp = p.clamp := by
  unfold State.settleMove
  split
  · exact endMove_timing pending ..
  · exact ⟨rfl, rfl⟩

/-- R82: a sound record's pending delay is its target. -/
theorem RecordSound.pending {p : Crosspoint} (h : RecordSound p) {q : Nat} (hq : p.pendingDelay = some q) :
    p.targetDelay = q := by
  cases hm : p.move with
  | none => exact nomatch ((delaysConsistent_steady hm).1 h.2.2).2.1.symm.trans hq
  | some m =>
    obtain ⟨_, _, _, _, ⟨none, _⟩ | ⟨target, _⟩⟩ := (delaysConsistent_moving hm).1 h.2.2
    · exact nomatch none.symm.trans hq
    · exact Option.some.inj (target.symm.trans hq)

variable {s} in
theorem planFrameStep_keepsTiming (sound : PlanRecordsSound s) (audio : AudioFrame) :
    KeepsTiming s (s.planFrameStep audio) := by
  refine ⟨fun x => ?_⟩
  have stepped : ((s.planFrameStep audio).crosspoint x).targetDelay = (s.crosspoint x).targetDelay
      ∧ ((s.planFrameStep audio).crosspoint x).clamp = (s.crosspoint x).clamp := by
    rw [planFrameStep_crosspoint]
    exact settleMove_timing s x fun q hq => (planRecordsSound_iff.1 sound x).pending hq
  refine ⟨delaySumOf_congr ?_ rfl ?_ rfl, stepped.1, stepped.2⟩
  · rw [planFrameStep_input]
  · rw [planFrameStep_zone]

variable {s} in
theorem moveEnd_keepsTiming (sound : PlanRecordsSound s) (x : Fin 384) :
    KeepsTiming s (s.setCrosspoint x (s.settleMove x (s.crosspoint x))) := by
  refine ⟨fun y => ?_⟩
  have settled := settleMove_timing s x fun q hq => (planRecordsSound_iff.1 sound x).pending hq
  refine ⟨delaySumOf_congr rfl rfl rfl rfl, ?_, ?_⟩ <;> rw [setCrosspoint_crosspoint] <;> split
  · next same => exact same ▸ settled.1
  · rfl
  · next same => exact same ▸ settled.2
  · rfl

/-! ### Inputs, lists and the area map -/

theorem retarget_keepsTiming (which : Fin 24 → Bool) : KeepsTiming s (s.retarget which) :=
  mapInputs_keepsTiming s fun _ _ => by split <;> rfl

theorem retargetStanding_keepsTiming : KeepsTiming s s.retargetStanding := mapInputs_keepsTiming s fun _ _ => rfl

theorem updateNom_keepsTiming (k : Area) : KeepsTiming s (s.updateNom k) :=
  .ite (.refl s) ((setArea_keepsTiming ..).trans (recompose_keepsTiming ..))

theorem closeGate_keepsTiming (i : Fin 24) : KeepsTiming s (s.closeGate i) := setInput_keepsTiming s rfl

theorem denyGate_keepsTiming (i : Fin 24) : KeepsTiming s (s.denyGate i) := setInput_keepsTiming s rfl

theorem setGate_keepsTiming (i : Fin 24) (g : GateState) : KeepsTiming s (s.setGate i g) := setInput_keepsTiming s rfl

theorem updateEntry_keepsTiming (k : Area) (i : Fin 24) (f : Entry → Entry) : KeepsTiming s (s.updateEntry k i f) :=
  setArea_keepsTiming ..

theorem dropEntry_keepsTiming (k : Area) (r : ListReason) (i : Fin 24) : KeepsTiming s (s.dropEntry k r i) :=
  ((setArea_keepsTiming s k _).trans (closeGate_keepsTiming _ i)).trans (raise_keepsTiming ..)

theorem releaseRetained_keepsTiming (k : Area) : KeepsTiming s (s.releaseRetained k) :=
  foldl_touches KeepsTiming.refl KeepsTiming.trans _ (fun s i => dropEntry_keepsTiming s k .released i) _ s

theorem releaseIf_keepsTiming {c : Prop} [Decidable c] (k : Area) :
    KeepsTiming s (if c then s.releaseRetained k else s) := .ite (releaseRetained_keepsTiming ..) (.refl s)

theorem shed_keepsTiming (k : Area) (r : ListReason) (n : Nat) : KeepsTiming s (s.shed k r n) := by
  induction n generalizing s with
  | zero => exact .refl s
  | succ n ih =>
    unfold State.shed
    split
    · exact .refl s
    · exact (dropEntry_keepsTiming ..).trans (ih _)

theorem applySettings_keepsTiming (k : Area) (old : AreaSettings) : KeepsTiming s (s.applySettings k old) :=
  ((shed_keepsTiming ..).trans (releaseIf_keepsTiming ..)).trans (releaseIf_keepsTiming ..)

theorem dropAndRetarget_keepsTiming (k : Area) (r : ListReason) (i : Fin 24) :
    KeepsTiming s (s.dropAndRetarget k r i) := (dropEntry_keepsTiming ..).trans (retarget_keepsTiming ..)

theorem appendEntry_keepsTiming (k : Area) (i : Fin 24) (p : Nat) (l : Int) :
    KeepsTiming s (s.appendEntry k i p l) := by
  have opened (t : State) : KeepsTiming t (t.setInput i { t.input i with gate := .opened, qualifying := 0 }) :=
    setInput_keepsTiming t rfl
  exact (((setArea_keepsTiming ..).trans (opened _)).trans (retarget_keepsTiming ..)).trans (raise_keepsTiming ..)

theorem giveWay_keepsTiming (k : Area) : KeepsTiming s (s.giveWay k) := by
  unfold State.giveWay
  split
  · exact .refl s
  · exact dropAndRetarget_keepsTiming ..

theorem settleRequest_keepsTiming (k : Area) (i : Fin 24) (p : Nat) (l : Int) :
    KeepsTiming s (s.settleRequest k i p l) := by
  refine .ite (denyGate_keepsTiming ..) ((giveWay_keepsTiming s k).trans
    (.ite ((appendEntry_keepsTiming ..).trans (updateNom_keepsTiming ..)) ?_))
  split
  · exact denyGate_keepsTiming ..
  · exact ((dropAndRetarget_keepsTiming ..).trans (appendEntry_keepsTiming ..)).trans (updateNom_keepsTiming ..)

theorem requestAdmission_keepsTiming (i : Fin 24) : KeepsTiming s (s.requestAdmission i) := by
  unfold State.requestAdmission
  split
  · exact denyGate_keepsTiming ..
  · exact settleRequest_keepsTiming ..

theorem expireHold_keepsTiming (k : Area) (i : Fin 24) : KeepsTiming s (s.expireHold k i) :=
  .ite (updateEntry_keepsTiming ..) (dropAndRetarget_keepsTiming ..)

theorem quietFrame_keepsTiming (i : Fin 24) : KeepsTiming s (s.quietFrame i) := by
  unfold State.quietFrame
  split
  · exact setGate_keepsTiming ..
  · have held (k : Area) (f : Entry → Entry) : KeepsTiming s ((s.updateEntry k i f).setGate i .holding) :=
      (updateEntry_keepsTiming ..).trans (setGate_keepsTiming ..)
    exact .ite ((held ..).trans ((expireHold_keepsTiming ..).trans (updateNom_keepsTiming ..))) (held ..)

theorem loudFrame_keepsTiming (i : Fin 24) : KeepsTiming s (s.loudFrame i) := by
  unfold State.loudFrame
  split
  · exact setGate_keepsTiming ..
  · exact (updateEntry_keepsTiming ..).trans (setGate_keepsTiming ..)

theorem qualify_keepsTiming (i : Fin 24) (n : Nat) : KeepsTiming s (s.qualify i n) := by
  have counted : KeepsTiming s (s.setInput i { s.input i with gate := .qualifying, qualifying := n }) :=
    setInput_keepsTiming s rfl
  exact counted.trans (.ite (requestAdmission_keepsTiming ..) (.refl _))

theorem gateAct_keepsTiming (i : Fin 24) (b : Band) : KeepsTiming s (s.gateAct i b) := by
  unfold State.gateAct
  split
  · exact qualify_keepsTiming ..
  · exact .refl s
  · exact qualify_keepsTiming ..
  · exact closeGate_keepsTiming ..
  · exact requestAdmission_keepsTiming ..
  · exact closeGate_keepsTiming ..
  · exact quietFrame_keepsTiming ..
  · exact .refl s
  · exact loudFrame_keepsTiming ..
  · exact .refl s

@[simp] theorem hear_settings (x : Input) (samples : List Int) : (x.hear samples).settings = x.settings := by
  rw [Input.hear]

@[simp] theorem track_settings (x : Input) (level : Int) : (x.track level).settings = x.settings := by
  unfold Input.track
  split_ifs <;> rfl

@[simp] theorem stepGain_settings (x : Input) (depth : Int) : (x.stepGain depth).settings = x.settings := by
  unfold Input.stepGain
  split_ifs <;> rfl

theorem trackStage_keepsTiming (i : Fin 24) (g : GateState) : KeepsTiming s (s.trackStage i g) :=
  .ite (setInput_keepsTiming s (by simp)) (.refl s)

theorem inputFrame_keepsTiming (i : Fin 24) (samples : List Int) : KeepsTiming s (s.inputFrame i samples) := by
  have heard : KeepsTiming s (s.setInput i ((s.input i).hear samples)) :=
    setInput_keepsTiming s (by rw [hear_settings])
  have gated (t : State) : KeepsTiming t (t.gateStage i) := .ite (gateAct_keepsTiming ..) (.refl _)
  exact KeepsTiming.trans (.ite heard (heard.trans ((gated _).trans (trackStage_keepsTiming ..))))
    (setInput_keepsTiming _ (by simp))

theorem holdTick_keepsTiming (k : Area) : KeepsTiming s (s.holdTick k) := by
  have ticked (u : AreaUnit) (xs : List (Fin 24)) :
      KeepsTiming s (xs.foldl (fun s i => s.expireHold k i) (s.setArea k u)) :=
    (setArea_keepsTiming ..).trans
      (foldl_touches KeepsTiming.refl KeepsTiming.trans _ (fun s i => expireHold_keepsTiming s k i) _ _)
  exact .ite ((ticked ..).trans (updateNom_keepsTiming ..)) (.refl s)

theorem holdExpiry_keepsTiming (i : Fin 24) : KeepsTiming s (s.holdExpiry i) := by
  unfold State.holdExpiry
  split
  · exact .refl s
  · exact .ite ((expireHold_keepsTiming ..).trans (updateNom_keepsTiming ..)) (.refl s)

theorem joinLists_keepsTiming (x y : Area) : KeepsTiming s (s.joinLists x y) := by
  have merged : KeepsTiming s (s.mergeLists x y) :=
    ((setArea_keepsTiming s x _).trans (setArea_keepsTiming _ x _)).trans (setArea_keepsTiming _ y _)
  exact ((merged.trans (releaseIf_keepsTiming ..)).trans (releaseIf_keepsTiming ..)).trans (shed_keepsTiming ..)

theorem splitLists_keepsTiming (x y : Area) : KeepsTiming s (s.splitLists x y) := by
  have divided : KeepsTiming s (s.divideList x y) :=
    ((setArea_keepsTiming s x _).trans (setArea_keepsTiming _ x _)).trans (setArea_keepsTiming _ y _)
  exact (divided.trans (shed_keepsTiming ..)).trans (releaseIf_keepsTiming ..)

theorem afterMapChange_keepsTiming (which : Fin 24 → Bool) : KeepsTiming s (s.afterMapChange which) :=
  (retarget_keepsTiming s which).trans (reevaluate_keepsTiming ..)

theorem joinArea_keepsTiming (x y : Area) : KeepsTiming s (s.joinArea x y) :=
  (((joinLists_keepsTiming s x y).trans (updateNom_keepsTiming ..)).trans (updateNom_keepsTiming ..)).trans
    (afterMapChange_keepsTiming ..)

theorem splitArea_keepsTiming (x y : Area) : KeepsTiming s (s.splitArea x y) :=
  (((splitLists_keepsTiming s x y).trans (updateNom_keepsTiming ..)).trans (updateNom_keepsTiming ..)).trans
    (afterMapChange_keepsTiming ..)

theorem changeAreaSettings_keepsTiming (k : Area) (new : AreaSettings) :
    KeepsTiming s (s.changeAreaSettings k new) := by
  have put := setArea_keepsTiming s k { s.area k with settings := new }
  exact .ite (((put.trans (applySettings_keepsTiming ..)).trans (updateNom_keepsTiming ..)).trans
    (retarget_keepsTiming ..)) put

theorem changePause_keepsTiming (k : Area) (paused : Bool) : KeepsTiming s (s.changePause k paused) := by
  have put := setArea_keepsTiming s k { s.area k with paused }
  exact .ite (.refl s) (KeepsTiming.trans
    (.ite (put.trans ((releaseRetained_keepsTiming ..).trans (updateNom_keepsTiming ..))) put)
    (retarget_keepsTiming ..))

/-! ### Zones and panels -/

theorem changeZone_keepsTiming (z : Fin 16) (new : ZoneScene) : KeepsTiming s (s.changeZone z new) := by
  have put (trim : Int) : KeepsTiming s (s.setZone z { s.zone z with scene := new, trim }) := setZone_keepsTiming s rfl
  exact KeepsTiming.trans (.ite (put _) ((put _).trans (relive_keepsTiming ..))) (recompose_keepsTiming ..)

theorem changeSends_keepsTiming (i : Fin 24) (first : Fin 16) (values : List Int) :
    KeepsTiming s (s.changeSends i first values) := by
  refine KeepsTiming.trans (updateCrosspoints_keepsTiming s _ ?_) (reevaluate_keepsTiming ..)
  exact fun _ _ => ⟨rfl, rfl⟩

theorem panelTrim_keepsTiming (n : Fin 8) (z : Fin 16) (new : Int) : KeepsTiming s (s.panelTrim n z new) := by
  have put : KeepsTiming s (s.setZone z { s.zone z with trim := new }) := setZone_keepsTiming s rfl
  exact .ite (.refl s) ((put.trans (recompose_keepsTiming ..)).trans (.ite (raise_keepsTiming ..) (.refl _)))

theorem takeDetent_keepsTiming (n : Fin 8) (d : Detent) : KeepsTiming s (s.takeDetent n d) := by
  unfold State.takeDetent
  split
  · exact .refl s
  · have limited {c : Prop} [Decidable c] (p : Panel) : KeepsTiming s (if c then s else s.setPanel n p) :=
      .ite (.refl s) (setPanel_keepsTiming ..)
    exact (limited _).trans (panelTrim_keepsTiming ..)

theorem takePush_keepsTiming (n : Fin 8) : KeepsTiming s (s.takePush n) := by
  unfold State.takePush
  split
  · exact .refl s
  · exact (setPanel_keepsTiming ..).trans (panelTrim_keepsTiming ..)

theorem illegalTransition_keepsTiming (n : Fin 8) : KeepsTiming s (s.illegalTransition n) :=
  .ite (setPanel_keepsTiming ..) ((setPanel_keepsTiming ..).trans (raise_keepsTiming ..))

theorem takeEdge_keepsTiming (n : Fin 8) (step : Int) : KeepsTiming s (s.takeEdge n step) := by
  unfold State.takeEdge
  dsimp only
  split
  · exact setPanel_keepsTiming ..
  · exact (setPanel_keepsTiming ..).trans (takeDetent_keepsTiming ..)

theorem decodeLines_keepsTiming (n : Fin 8) : KeepsTiming s (s.decodeLines n) := by
  unfold State.decodeLines
  dsimp only
  split
  · split
    · exact setPanel_keepsTiming ..
    · split
      · exact (setPanel_keepsTiming ..).trans (takeEdge_keepsTiming ..)
      · exact (setPanel_keepsTiming ..).trans (illegalTransition_keepsTiming ..)
      · exact setPanel_keepsTiming ..
  · exact .refl s

theorem panelSample_keepsTiming (n : Fin 8) (levelA levelB levelZ : Bool) :
    KeepsTiming s (s.panelSample n levelA levelB levelZ) := by
  have decoded {c : Prop} [Decidable c] (t : State) : KeepsTiming t (if c then t.decodeLines n else t) :=
    .ite (decodeLines_keepsTiming ..) (.refl t)
  have pushed {c : Prop} [Decidable c] (t : State) : KeepsTiming t (if c then t.takePush n else t) :=
    .ite (takePush_keepsTiming ..) (.refl t)
  exact ((setPanel_keepsTiming s n _).trans (decoded _)).trans (pushed _)

/-! ### Recomputes (R20) -/

variable {s} in
/-- A recompute of crosspoints outside of which every target and flag is current leaves all of them current. -/
theorem retime_current {which : Fin 384 → Bool} (others : ∀ x, which x = false → Timed s x) :
    DelayTargetsCurrent (s.retime which) := fun x =>
  match h : which x with
  | true => retime_timed s h
  | false => (retime_timingStands s h).timed (others x h)

theorem reckon_current : DelayTargetsCurrent s.reckon :=
  ((retargetStanding_keepsTiming _).trans (reevaluate_keepsTiming ..)).current
    (retime_current fun _ h => nomatch (h : true = false))

/-- R121: a recall computes every delay target, whatever it finds. -/
theorem recall_current (k : Fin 64) (scene : Scene) (mode : RecallMode) (keep : Bool) (cause : RecallCause) :
    DelayTargetsCurrent (s.recall k scene mode keep cause) := by
  refine (raise_keepsTiming ..).current ?_
  cases mode with
  | smooth => exact reckon_current _
  | snap => exact (snapAll_keepsTiming _).current (reckon_current _)

/-- R135: so does a start-up. -/
theorem startSetup_current : DelayTargetsCurrent s.startSetup := by
  unfold State.startSetup
  split
  · exact ((snapAll_keepsTiming _).trans (raise_keepsTiming ..)).current (recall_current _ _ _ _ _ _)
  · exact ((snapAll_keepsTiming _).trans (raise_keepsTiming ..)).current (reckon_current _)

/-- R16, R17: with no station named anywhere every delay target is the factory precedence offset. -/
theorem cold_current (store : Store) (pending : List Instr) (powered : Bool) :
    DelayTargetsCurrent (State.cold store pending powered) := by
  intro x
  have record : (State.cold store pending powered).crosspoint x = Crosspoint.initial 576 := Table.get_replicate ..
  have input : (State.cold store pending powered).input (inputOf x) = Input.initial := Table.get_replicate ..
  have zone : (State.cold store pending powered).zone (zoneOf x) = Zone.initial := Table.get_replicate ..
  have sum : (State.cold store pending powered).delaySumOf x = 576 := by
    simp [State.delaySumOf, State.talker, input, zone, delaySum, geometricTerm, Input.initial, InputSettings.factory,
      Zone.initial, ZoneGeometry.factory]
  rw [record, sum]
  decide

end Sys2Proof.Machine
end

section
/-! SUPPORT. R25, R34, R160: what raising a notice, the closing of a gate, an entry's leaving and a withdrawal leave of
the parts of the state that are read later. -/

namespace Sys2Proof.Machine

variable (s : State)

section
variable {s t : State}

theorem OnlyNotices.input (h : OnlyNotices s t) (i : Fin 24) : t.input i = s.input i := by
  obtain ⟨_, _, rfl⟩ := h; rfl

theorem OnlyNotices.area (h : OnlyNotices s t) (k : Area) : t.area k = s.area k := by
  obtain ⟨_, _, rfl⟩ := h; rfl

theorem OnlyNotices.crosspoint (h : OnlyNotices s t) (x : Fin 384) : t.crosspoint x = s.crosspoint x := by
  obtain ⟨_, _, rfl⟩ := h; rfl

theorem OnlyNotices.zone (h : OnlyNotices s t) (z : Fin 16) : t.zone z = s.zone z := by
  obtain ⟨_, _, rfl⟩ := h; rfl

theorem OnlyNotices.panel (h : OnlyNotices s t) (n : Fin 8) : t.panel n = s.panel n := by
  obtain ⟨_, _, rfl⟩ := h; rfl

end

@[simp] theorem raise_input (k : NoticeKind) (n : Nat) (v : Int) (i : Fin 24) :
    (s.raise k n v).input i = s.input i := (raise_onlyNotices s k n v).input i

@[simp] theorem raise_area (k : NoticeKind) (n : Nat) (v : Int) (l : Area) : (s.raise k n v).area l = s.area l :=
  (raise_onlyNotices s k n v).area l

@[simp] theorem raise_crosspoint (k : NoticeKind) (n : Nat) (v : Int) (x : Fin 384) :
    (s.raise k n v).crosspoint x = s.crosspoint x := (raise_onlyNotices s k n v).crosspoint x

@[simp] theorem raise_zone (k : NoticeKind) (n : Nat) (v : Int) (z : Fin 16) :
    (s.raise k n v).zone z = s.zone z := (raise_onlyNotices s k n v).zone z

@[simp] theorem raise_panel (k : NoticeKind) (n : Nat) (v : Int) (m : Fin 8) :
    (s.raise k n v).panel m = s.panel m := (raise_onlyNotices s k n v).panel m

/-- R34: an input with its gate closed and its QUALIFYING count cleared. -/
def Input.closed (x : Input) : Input := { x with gate := .closed, qualifying := 0 }

@[simp] theorem closed_settings (x : Input) : x.closed.settings = x.settings := rfl

theorem closeGate_input (i j : Fin 24) :
    (s.closeGate i).input j = if i = j then (s.input j).closed else s.input j := by
  rw [State.closeGate, setInput_input]
  split
  · next same => rw [same]; rfl
  · rfl

theorem dropEntry_input (k : Area) (r : ListReason) (i j : Fin 24) :
    (s.dropEntry k r i).input j = if i = j then (s.input j).closed else s.input j := by
  rw [State.dropEntry, State.raiseListChange, raise_input, closeGate_input]
  rfl

/-- R25: a withdrawal closes the gate of its input. -/
theorem withdraw_input (i j : Fin 24) :
    (s.withdraw i).input j = if i = j then (s.input j).closed else s.input j := by
  unfold State.withdraw
  split
  · exact closeGate_input ..
  · split
    · exact dropEntry_input ..
    · exact closeGate_input ..

end Sys2Proof.Machine
end

section
/-! PROOFS. O19: the delay targets and clamp flags stay current. Every request and every event keeps them, or recomputes
what its rule names. -/

namespace Sys2Proof.Machine

open Sys2Proof.Safety

variable {s : State}

/-! ### Inputs, stations, zones and climate (R5, R8, R12, R20, R21) -/

theorem withdraw_keepsTiming (i : Fin 24) : KeepsTiming s (s.withdraw i) := by
  unfold State.withdraw
  split
  · exact closeGate_keepsTiming ..
  · exact .ite (dropEntry_keepsTiming ..) (closeGate_keepsTiming ..)

/-- R25: settings put in force keep the timing of every crosspoint but those of the input, and of these too where the
station stands. -/
theorem putInputSettings_timingStands {i : Fin 24} {new : InputSettings} {x : Fin 384}
    (h : i = inputOf x → new.station = (s.input i).settings.station) : TimingStands s (s.putInputSettings i new) x := by
  have put : TimingStands s ((s.withdraw i).setInput i { (s.withdraw i).input i with settings := new }) x := by
    refine ((withdraw_keepsTiming i).stands x).trans (setInput_timingStands _ fun same => ?_)
    rw [withdraw_input, if_pos rfl]
    exact h same
  unfold State.putInputSettings
  split
  · dsimp only
    split
    · exact put
    · exact put.trans ((updateNom_keepsTiming ..).stands x)
  · exact setInput_timingStands s h

theorem putPriority_keepsTiming (s : State) (i : Fin 24) : KeepsTiming s (s.putPriority i) := by
  unfold State.putPriority
  split
  · exact .refl s
  · exact updateEntry_keepsTiming ..

/-- R20: a change of station recomputes the crosspoints of the input. -/
theorem changeInput_current (h : DelayTargetsCurrent s) (i : Fin 24) (new : InputSettings) :
    DelayTargetsCurrent (s.changeInput i new) := by
  have prioritised {c : Prop} [Decidable c] (t : State) : KeepsTiming t (if c then t else t.putPriority i) :=
    .ite (.refl t) (putPriority_keepsTiming ..)
  have evaluated {c : Prop} [Decidable c] (t : State) : KeepsTiming t (if c then t else t.reevaluate (ofInput i)) :=
    .ite (.refl t) (reevaluate_keepsTiming ..)
  have put {x : Fin 384} (station : i = inputOf x → new.station = (s.input i).settings.station) {c : Prop}
      [Decidable c] : Timed (if c then s.putInputSettings i new else (s.putInputSettings i new).putPriority i) x :=
    ((putInputSettings_timingStands station).trans ((prioritised _).stands x)).timed (h x)
  unfold State.changeInput
  dsimp only
  split
  · exact h
  · refine ((retarget_keepsTiming ..).trans (evaluated _)).current ?_
    split
    · next station => exact fun x => put fun _ => station
    · exact retime_current fun x other => put fun same => absurd same.symm (by simpa [ofInput] using other)

theorem station_set_ne {n m : Fin 32} (new : Station) (h : n ≠ m) :
    ({ s with stations := s.stations.set n new } : State).station m = s.station m := Table.get_set_ne _ _ h

theorem station_set_self (n : Fin 32) (new : Station) :
    ({ s with stations := s.stations.set n new } : State).station n = new := Table.get_set_self ..

/-- R4: where a talker stands depends on the station named alone. -/
theorem talker_congr {s t : State} {i : Fin 24} (named : (t.input i).settings.station = (s.input i).settings.station)
    (stands : ∀ n, (s.input i).settings.station = some n →
      (t.station n).defined = (s.station n).defined ∧ (t.station n).point = (s.station n).point) :
    t.talker i = s.talker i := by
  unfold State.talker
  rw [named]
  cases h : (s.input i).settings.station with
  | none => rfl
  | some n =>
    obtain ⟨defined, point⟩ := stands n h
    simp only [defined, point]

/-- R4: a station changes what the live geometry gives the crosspoints of the inputs that name it, and only where its
flag or its point differs. -/
theorem setStation_timingStands {n : Fin 32} {new : Station} {x : Fin 384}
    (h : s.ofStation n x = true → (s.station n).moved new = false) :
    TimingStands s { s with stations := s.stations.set n new } x := by
  refine ⟨?_, rfl, rfl⟩
  have talker : ({ s with stations := s.stations.set n new } : State).talker (inputOf x) = s.talker (inputOf x) := by
    refine talker_congr rfl fun m named => ?_
    by_cases same : n = m
    · subst same
      have stands : (s.station n).defined = new.defined ∧ (s.station n).point = new.point := by
        simpa [Station.moved] using h (by simp [State.ofStation, named])
      simp only [station_set_self, stands.1, stands.2, and_self]
    · simp only [station_set_ne _ same, and_self]
  unfold State.delaySumOf
  rw [talker]
  rfl

theorem changeStation_current (h : DelayTargetsCurrent s) (n : Fin 32) (new : Station) :
    DelayTargetsCurrent (s.changeStation n new) := by
  unfold State.changeStation
  dsimp only
  split
  · refine retime_current fun x other => (setStation_timingStands fun named => ?_).timed (h x)
    exact nomatch other.symm.trans named
  · next stands => exact fun x => (setStation_timingStands fun _ => by simpa using stands).timed (h x)

/-- R16, R17: a zone's geometry changes what the live geometry gives its crosspoints, and only where a point, the
precedence offset or the extra delay differs. -/
theorem setGeometry_timingStands {z : Fin 16} {new : ZoneGeometry} {x : Fin 384}
    (h : z = zoneOf x → (s.zone z).geometry.moved new = false) :
    TimingStands s (s.setZone z { s.zone z with geometry := new }) x := by
  refine ⟨?_, rfl, rfl⟩
  unfold State.delaySumOf
  rw [setZone_zone]
  split
  · next same =>
    obtain ⟨speaker, listener, precedence, extra⟩ := by simpa [ZoneGeometry.moved] using h same
    subst same
    simp only [delaySum, geometricTerm, speaker, listener, precedence, extra]
    rfl
  · rfl

theorem changeZoneGeometry_current (h : DelayTargetsCurrent s) (z : Fin 16) (new : ZoneGeometry) :
    DelayTargetsCurrent (s.changeZoneGeometry z new) := by
  unfold State.changeZoneGeometry
  dsimp only
  split
  · refine retime_current fun x other => (setGeometry_timingStands fun same => ?_).timed (h x)
    exact absurd same.symm (by simpa [ofZone] using other)
  · next stands => exact fun x => (setGeometry_timingStands fun _ => by simpa using stands).timed (h x)

theorem takeReport_current (h : DelayTargetsCurrent s) (report : Int) : DelayTargetsCurrent (s.takeReport report) := by
  unfold State.takeReport
  split
  · exact retime_current fun _ other => nomatch (other : true = false)
  · exact (KeepsTiming.of_same rfl rfl rfl rfl rfl).current h

theorem takeClimate_current (h : DelayTargetsCurrent s) (parts : ClimateParts) :
    DelayTargetsCurrent (s.takeClimate parts) := by
  have set : DelayTargetsCurrent (match parts.settings with
      | none => s
      | some p => s.takeClimateSettings p.1 p.2) := by
    split
    · exact h
    · exact (KeepsTiming.of_same rfl rfl rfl rfl rfl).current h
  unfold State.takeClimate
  dsimp only
  split
  · exact set
  · exact takeReport_current set _

/-! ### Start-up and the alarm -/

theorem enterAlarmState_keepsTiming (s : State) (st : AlarmState) : KeepsTiming s (s.enterAlarmState st) := by
  have entered : KeepsTiming s { s with alarm := { s.alarm with state := st } } := .of_same rfl rfl rfl rfl rfl
  exact entered.trans (raise_keepsTiming ..)

theorem enterFault_keepsTiming (s : State) (cause : FaultCause) (action : ActionTaken) :
    KeepsTiming s (s.enterFault cause action) := by
  have stopped (u : AlarmUnit) : KeepsTiming s { s with alarm := u } := .of_same rfl rfl rfl rfl rfl
  exact ((stopped _).trans (enterAlarmState_keepsTiming ..)).trans (raise_keepsTiming ..)

theorem setSelectors_keepsTiming (s : State) (source : ZoneSource) : KeepsTiming s (s.setSelectors source) :=
  mapZones_keepsTiming s fun _ _ => rfl

theorem setCause_keepsTiming (s : State) (cause : OverrideCause) : KeepsTiming s (s.setCause cause) :=
  .of_same rfl rfl rfl rfl rfl

theorem takeOverride_keepsTiming (s : State) (cause : OverrideCause) : KeepsTiming s (s.takeOverride cause) := by
  have held : KeepsTiming s (if s.alarm.cause = .noCause then s.setSelectors .alarmSource else s) :=
    .ite (setSelectors_keepsTiming ..) (.refl s)
  exact (held.trans (setCause_keepsTiming ..)).trans (raise_keepsTiming ..)

theorem endOverride_keepsTiming (s : State) : KeepsTiming s s.endOverride :=
  (((setCause_keepsTiming ..).trans (floorReset_keepsTiming ..)).trans (setSelectors_keepsTiming ..)).trans
    (raise_keepsTiming ..)

/-- R144: an expiry leaves the plan or recalls a scene. -/
theorem expireSupervision_current (h : DelayTargetsCurrent s) : DelayTargetsCurrent s.expireSupervision := by
  unfold State.expireSupervision
  split
  · exact (enterFault_keepsTiming ..).current h
  · exact ((enterFault_keepsTiming ..).trans (takeOverride_keepsTiming ..)).current h
  · split
    · exact (enterFault_keepsTiming ..).current h
    · exact recall_current _ _ _ _ _ _

theorem enterArmed_current (h : DelayTargetsCurrent s) : DelayTargetsCurrent s.enterArmed := by
  have loaded : KeepsTiming s (s.loadTimer 1) := .of_same rfl rfl rfl rfl rfl
  have armed := (loaded.trans (enterAlarmState_keepsTiming _ .armed)).current h
  unfold State.enterArmed
  dsimp only
  split
  · exact expireSupervision_current armed
  · exact armed

theorem decideAutoArm_current (h : DelayTargetsCurrent s) : DelayTargetsCurrent s.decideAutoArm := by
  unfold State.decideAutoArm
  split
  · exact enterArmed_current h
  · exact h

theorem keySample_current (h : DelayTargetsCurrent s) (level : Bool) : DelayTargetsCurrent (s.keySample level) := by
  have sampled (key : LineFilter) : DelayTargetsCurrent { s with key } :=
    (KeepsTiming.of_same rfl rfl rfl rfl rfl).current h
  unfold State.keySample
  dsimp only
  split
  · split
    · unfold State.firstKeyAcceptance
      split
      · exact (KeepsTiming.of_same rfl rfl rfl rfl rfl).current h
      · exact decideAutoArm_current (sampled _)
    · exact (raise_keepsTiming ..).current (sampled _)
  · exact sampled _

theorem supervisionTick_current (h : DelayTargetsCurrent s) : DelayTargetsCurrent s.supervisionTick := by
  have ticked (u : AlarmUnit) : DelayTargetsCurrent { s with alarm := u } :=
    (KeepsTiming.of_same rfl rfl rfl rfl rfl).current h
  unfold State.supervisionTick
  split
  · dsimp only
    split
    · exact expireSupervision_current (ticked _)
    · exact ticked _
  · exact h

theorem finishOperation_keepsTiming (s : State) (op : StoreOp) : KeepsTiming s (s.finishOperation op) := by
  cases op <;> exact .of_same rfl rfl rfl rfl rfl

theorem completeStore_current (h : DelayTargetsCurrent s) : DelayTargetsCurrent s.completeStore := by
  unfold State.completeStore
  split
  · exact h
  · next op _ =>
    have finished := (finishOperation_keepsTiming s op).current h
    refine (raise_keepsTiming ..).current ?_
    split
    · unfold State.takeDeferredDecision
      split
      · exact decideAutoArm_current ((KeepsTiming.of_same rfl rfl rfl rfl rfl).current finished)
      · exact finished
    · exact finished

/-! ### Requests (R155 to R157) -/

/-- The settling of an answer keeps the delay targets current. -/
structure AnswerKeepsTiming (s : State) (a : Answer) : Prop where
  keeps : DelayTargetsCurrent s → DelayTargetsCurrent a.state

theorem AnswerKeepsTiming.of_state {a : Answer} (h : KeepsTiming s a.state) : AnswerKeepsTiming s a := ⟨h.current⟩

theorem AnswerKeepsTiming.of_same {a : Answer} (inputs : a.state.inputs = s.inputs) (zones : a.state.zones = s.zones)
    (stations : a.state.stations = s.stations) (used : a.state.used = s.used)
    (records : a.state.crosspoints = s.crosspoints) : AnswerKeepsTiming s a :=
  .of_state (.of_same inputs zones stations used records)

theorem refuse_keepsTiming (r : Result) : AnswerKeepsTiming s (s.refuse r) := ⟨id⟩

theorem AnswerKeepsTiming.ite {c : Prop} [Decidable c] {a b : Answer} (h : AnswerKeepsTiming s a)
    (k : AnswerKeepsTiming s b) : AnswerKeepsTiming s (if c then a else b) := by
  split
  · exact h
  · exact k

theorem AnswerKeepsTiming.fitting {fits : Bool} {a : Answer} (h : AnswerKeepsTiming s a) :
    AnswerKeepsTiming s (s.fitting fits a) :=
  ⟨fun current => fitting_keeps (P := DelayTargetsCurrent) current (h.keeps current)⟩

theorem AnswerKeepsTiming.withTarget {α : Type} {target : Option α} {a : α → Answer}
    (h : ∀ t, AnswerKeepsTiming s (a t)) : AnswerKeepsTiming s (s.withTarget target a) :=
  ⟨fun current => withTarget_keeps (P := DelayTargetsCurrent) current fun t => (h t).keeps current⟩

theorem AnswerKeepsTiming.withValue {α : Type} {value : Option α} {a : α → Answer}
    (h : ∀ v, AnswerKeepsTiming s (a v)) : AnswerKeepsTiming s (s.withValue value a) :=
  ⟨fun current => withValue_keeps (P := DelayTargetsCurrent) current fun v => (h v).keeps current⟩

variable (s)

theorem storeRequest_keepsTiming (op : StoreOp) (clamped : Bool) :
    AnswerKeepsTiming s (s.storeRequest op clamped) := by
  have protected_ : AnswerKeepsTiming s ⟨{ s with latch := false }, .protected_, []⟩ := .of_same rfl rfl rfl rfl rfl
  have accepted (r : Result) : AnswerKeepsTiming s ⟨s.acceptStore op, r, []⟩ := .of_same rfl rfl rfl rfl rfl
  exact .ite (refuse_keepsTiming _) (.ite (refuse_keepsTiming _) (.ite protected_ (.ite (refuse_keepsTiming _)
    (accepted _))))

theorem recallSlot_keepsTiming (k : Fin 64) (mode : RecallMode) (keep : Bool) :
    AnswerKeepsTiming s (s.recallSlot k mode keep) := by
  refine .ite (refuse_keepsTiming _) ?_
  split
  · exact refuse_keepsTiming _
  · exact refuse_keepsTiming _
  · exact ⟨fun _ => recall_current _ _ _ _ _ _⟩

theorem armFirst_keepsTiming : AnswerKeepsTiming s s.armFirst := by
  unfold State.armFirst
  split
  · exact .ite (refuse_keepsTiming _) (.of_state (enterAlarmState_keepsTiming ..))
  · exact .of_state (.refl s)
  · exact refuse_keepsTiming _
  · exact refuse_keepsTiming _

theorem armSecond_keepsTiming (enable : Bool) : AnswerKeepsTiming s (s.armSecond enable) := by
  unfold State.armSecond
  split
  · exact refuse_keepsTiming _
  · exact .ite ⟨enterArmed_current⟩ (.of_state (enterAlarmState_keepsTiming ..))
  · exact refuse_keepsTiming _
  · exact refuse_keepsTiming _

theorem alarmOn_keepsTiming : AnswerKeepsTiming s s.alarmOn := by
  unfold State.alarmOn
  split
  · exact .of_state (takeOverride_keepsTiming ..)
  · exact .of_state (.refl s)
  · exact .of_state (.refl s)

theorem alarmOff_keepsTiming : AnswerKeepsTiming s s.alarmOff := by
  unfold State.alarmOff
  split
  · exact refuse_keepsTiming _
  · exact .of_state (endOverride_keepsTiming _)
  · exact refuse_keepsTiming _

theorem supervise_keepsTiming (phase : Nat) : AnswerKeepsTiming s (s.supervise phase) := by
  have expecting (t : Timer) : AnswerKeepsTiming s ⟨s.expectSecond t, .done, []⟩ := .of_same rfl rfl rfl rfl rfl
  have loaded : AnswerKeepsTiming s ⟨s.loadTimer 1, .done, []⟩ := .of_same rfl rfl rfl rfl rfl
  unfold State.supervise
  split
  · exact .ite (expecting _) (.ite loaded (.of_state (enterFault_keepsTiming ..)))
  · exact .of_state (enterFault_keepsTiming ..)
  · exact refuse_keepsTiming _

theorem answerSplt_keepsTiming (body : List Byte) : AnswerKeepsTiming s (s.answerSplt body) := by
  refine .fitting (.withTarget fun x => ?_)
  split
  · exact refuse_keepsTiming _
  · exact .of_state (splitArea_keepsTiming ..)

theorem pauseRequest_keepsTiming (body : List Byte) (paused : Bool) :
    AnswerKeepsTiming s (s.pauseRequest body paused) :=
  .fitting (.withTarget fun _ => .ite (.of_state (changePause_keepsTiming ..)) (refuse_keepsTiming _))

/-- Every request of the control line keeps the delay targets current: the cases are in the order of Table 9-3. -/
theorem answerControl_keepsTiming (kind : Byte) (body : List Byte) :
    AnswerKeepsTiming s (s.answerControl kind body) := by
  unfold State.answerControl
  split
  · exact .fitting (.of_state (.refl s))
  · exact .fitting (.of_same rfl rfl rfl rfl rfl)
  · exact .fitting (.withValue fun _ => .of_same rfl rfl rfl rfl rfl)
  · exact .fitting (.withTarget fun _ => .withValue fun _ => ⟨fun h => changeInput_current h _ _⟩)
  · exact .fitting (.withTarget fun _ => .of_state (setInput_keepsTiming s rfl))
  · exact .fitting (.withTarget fun _ => .withValue fun _ => .of_state (changeZone_keepsTiming ..))
  · exact .fitting (.withTarget fun _ => .of_state (.refl s))
  · exact .fitting (.withTarget fun _ => .withValue fun _ => ⟨fun h => changeZoneGeometry_current h _ _⟩)
  · exact .fitting (.withTarget fun _ => .withValue fun _ => ⟨fun h => changeStation_current h _ _⟩)
  · exact .fitting (.withTarget fun _ => .of_state (.refl s))
  · exact .fitting (.withValue fun _ => ⟨fun h => takeClimate_current h _⟩)
  · exact .fitting (.withTarget fun _ => .of_state (changeSends_keepsTiming ..))
  · exact .fitting (.withTarget fun _ => .of_state (.refl s))
  · exact .fitting (.withTarget fun _ => .of_state (snapToTargets_keepsTiming ..))
  · exact .fitting (.withTarget fun _ => .withValue fun _ => .of_state (changeAreaSettings_keepsTiming ..))
  · exact .fitting (.withTarget fun _ => .of_state (.refl s))
  · exact .fitting (.withTarget fun _ => .ite (.of_state (joinArea_keepsTiming ..)) (refuse_keepsTiming _))
  · exact answerSplt_keepsTiming ..
  · exact pauseRequest_keepsTiming ..
  · exact pauseRequest_keepsTiming ..
  · exact .fitting (.withTarget fun _ => .withValue fun _ => .of_state (setPanel_keepsTiming ..))
  · exact .fitting (.withTarget fun _ => .of_state (setPanel_keepsTiming ..))
  · exact .fitting (.withTarget fun _ => .withValue fun _ => recallSlot_keepsTiming ..)
  · exact .fitting (.withTarget fun _ => .withValue fun _ => storeRequest_keepsTiming ..)
  · exact .fitting (.withTarget fun _ => storeRequest_keepsTiming ..)
  · exact .fitting (.withTarget fun _ => .of_state (.refl s))
  · exact .fitting (.withValue fun _ => storeRequest_keepsTiming ..)
  · exact .fitting (.of_same rfl rfl rfl rfl rfl)
  · exact .fitting (.of_same rfl rfl rfl rfl rfl)
  · exact .fitting (.withValue fun _ => storeRequest_keepsTiming ..)
  · exact .fitting (.withValue fun _ => storeRequest_keepsTiming ..)
  · exact .fitting (.of_state (.refl s))
  · exact .fitting (armFirst_keepsTiming _)
  · exact .fitting (.withValue fun _ => armSecond_keepsTiming ..)
  · exact .fitting (.ite (refuse_keepsTiming _) (.ite (refuse_keepsTiming _) (.of_same rfl rfl rfl rfl rfl)))
  · exact refuse_keepsTiming _

theorem answerSafety_keepsTiming (kind : Byte) (body : List Byte) :
    AnswerKeepsTiming s (s.answerSafety kind body) := by
  unfold State.answerSafety
  split
  · exact .fitting (alarmOn_keepsTiming _)
  · exact .fitting (alarmOff_keepsTiming _)
  · exact .fitting (supervise_keepsTiming ..)
  · exact refuse_keepsTiming _

/-- R17, R66: the plan's records are sound, and its delay targets and clamp flags current. -/
def PlanTimed (s : State) : Prop := PlanRecordsSound s ∧ DelayTargetsCurrent s

theorem requests_keepPlanTimed : RequestsKeep PlanTimed where
  line s line l h := ⟨requests_keepPlan.line s line l h.1, (setLine_keepsTiming s line l).current h.2⟩
  answered s line kind body h := by
    refine ⟨requests_keepPlan.answered s line kind body h.1, ?_⟩
    cases line with
    | control => exact (answerControl_keepsTiming s kind body).keeps h.2
    | safety => exact (answerSafety_keepsTiming s kind body).keeps h.2

theorem frameBoundary_keepsTiming : KeepsTiming s s.frameBoundary where
  stands _ := ⟨delaySumOf_congr (by simp [State.input, State.frameBoundary]) rfl
    (by simp [State.zone, State.frameBoundary, State.zoneAtBoundary]) rfl, rfl, rfl⟩

/-- The events keep the delay targets current; a plan step and a MOVE_END do so in a sound plan. -/
theorem events_keepPlanTimed : EventsKeep PlanTimed where
  inputFrame s i samples h := ⟨events_keepPlan.inputFrame s i samples h.1, (inputFrame_keepsTiming s i samples).current h.2⟩
  holdTick s k h := ⟨events_keepPlan.holdTick s k h.1, (holdTick_keepsTiming s k).current h.2⟩
  holdExpiry s i h := ⟨events_keepPlan.holdExpiry s i h.1, (holdExpiry_keepsTiming s i).current h.2⟩
  planFrameStep s audio h := ⟨events_keepPlan.planFrameStep s audio h.1, (planFrameStep_keepsTiming h.1 audio).current h.2⟩
  moveEnd s x h := ⟨events_keepPlan.moveEnd s x h.1, (moveEnd_keepsTiming h.1 x).current h.2⟩
  completeStore s h := ⟨events_keepPlan.completeStore s h.1, completeStore_current h.2⟩
  panelSample s n levelA levelB levelZ h :=
    ⟨events_keepPlan.panelSample s n levelA levelB levelZ h.1, (panelSample_keepsTiming s n levelA levelB levelZ).current h.2⟩
  keySample s level h := ⟨events_keepPlan.keySample s level h.1, keySample_current h.2 level⟩
  supervisionTick s h := ⟨events_keepPlan.supervisionTick s h.1, supervisionTick_current h.2⟩
  expireSupervision s h := ⟨events_keepPlan.expireSupervision s h.1, expireSupervision_current h.2⟩
  startUp s := ⟨events_keepPlan.startUp s, startSetup_current _⟩
  cold s := ⟨events_keepPlan.cold s, cold_current _ _ _⟩
  frameBoundary s h := ⟨events_keepPlan.frameBoundary s h.1, (frameBoundary_keepsTiming s).current h.2⟩

end Sys2Proof.Machine

namespace Sys2Proof.Proofs

open Sys2Proof Sys2Proof.Machine Sys2Proof.Safety

/-- Settles O19: every request and every event leaves the live geometry and the delay targets (`KeepsTiming`), or
recomputes the crosspoints whose geometry it changes (`retime_current`). -/
theorem delayTargetsStayCurrent : Obligations.DelayTargetsStayCurrent := fun _ _ sound current stepped =>
  (step_keeps requests_keepPlanTimed events_keepPlanTimed
    (fun _ _ h => ⟨(KeepsPlan.of_same rfl).sound h.1, (KeepsTiming.of_same rfl rfl rfl rfl rfl).current h.2⟩)
    ⟨sound, current⟩ stepped).2

end Sys2Proof.Proofs
end

section
/-! PROOFS. O16 to O18: distance, speed of sound and delay sum. -/

namespace Sys2Proof.Machine

/-! ### Distance (R14) -/

/-- R14, step 3: a root found bit by bit, where the number lies below the square of all that the bits left can reach. -/
theorem squareRootFrom_spec (n : Nat) : ∀ bits found, found ^ 2 ≤ n → n < (found + 2 ^ bits) ^ 2 →
    squareRootFrom n bits found ^ 2 ≤ n ∧ n < (squareRootFrom n bits found + 1) ^ 2
  | 0, _, low, high => ⟨low, high⟩
  | bits + 1, found, low, high => by
    rw [squareRootFrom]
    split
    · next fits =>
      refine squareRootFrom_spec n bits _ (by rwa [pow_two]) ?_
      rwa [Nat.add_assoc, ← Nat.two_mul, ← pow_succ']
    · next exceeds => exact squareRootFrom_spec n bits found low (by rw [pow_two]; omega)

theorem squareRoot_spec {n : Nat} (h : n < 2 ^ 48) : squareRoot n ^ 2 ≤ n ∧ n < (squareRoot n + 1) ^ 2 :=
  squareRootFrom_spec n 24 0 (Nat.zero_le n) h

theorem coordinateGap_sq (p q : Nat) : ((coordinateGap p q ^ 2 : Nat) : Int) = ((p : Int) - q) ^ 2 := by
  unfold coordinateGap
  split
  · next le => rw [Nat.cast_pow, Nat.cast_sub le]; ring
  · next lt => rw [Nat.cast_pow, Nat.cast_sub (by omega)]

theorem coordinateGap_sq_le {p q limit : Nat} (hp : p ≤ limit) (hq : q ≤ limit) :
    coordinateGap p q ^ 2 ≤ limit ^ 2 := by
  refine Nat.pow_le_pow_left ?_ 2
  unfold coordinateGap
  split <;> omega

/-! ### Speed of sound (R15) -/

/-- R15: the term rounded without its sign. -/
theorem roundedTemperatureTerm_of_nonneg {tu : Int} (h : 0 ≤ tu) :
    roundedTemperatureTerm tu = (606 * tu + 50) / 100 := by
  obtain ⟨n, rfl⟩ := Int.eq_ofNat_of_zero_le h
  unfold roundedTemperatureTerm
  rcases Nat.eq_zero_or_pos n with rfl | positive
  · rfl
  · rw [Int.sign_eq_one_of_pos (by exact_mod_cast positive), one_mul, Int.natAbs_natCast]
    norm_cast

theorem roundedTemperatureTerm_neg (tu : Int) : roundedTemperatureTerm (-tu) = -roundedTemperatureTerm tu := by
  unfold roundedTemperatureTerm
  rw [Int.sign_neg, Int.natAbs_neg, neg_mul]

/-- The speed of sound is positive over the range of temperatures. -/
theorem speedOfSound_pos {tu : Int} (low : -200 ≤ tu) (high : tu ≤ 450) : 0 < speedOfSound tu := by
  unfold speedOfSound
  rcases le_total 0 tu with warm | cold
  · rw [roundedTemperatureTerm_of_nonneg warm]; omega
  · obtain ⟨n, rfl⟩ : ∃ n, tu = -n := ⟨-tu, by omega⟩
    rw [roundedTemperatureTerm_neg, roundedTemperatureTerm_of_nonneg (by omega)]; omega

/-! ### Delay sums (R16, R17) -/

/-- R16, step 4: the samples of a path are the nearest whole number, halves up. -/
theorem samplesOfPath_spec (path : Nat) {speed : Nat} (h : 0 < speed) :
    speed * (2 * samplesOfPath path speed) ≤ 2 * (path * 48000) + speed
      ∧ 2 * (path * 48000) + speed < speed * (2 * samplesOfPath path speed + 2) := by
  have double : 0 < 2 * speed := by omega
  have low := Nat.mul_div_le (2 * (path * 48000) + speed) (2 * speed)
  have high := Nat.lt_mul_div_succ (2 * (path * 48000) + speed) double
  unfold samplesOfPath
  constructor
  · calc speed * (2 * ((2 * (path * 48000) + speed) / (2 * speed)))
        = 2 * speed * ((2 * (path * 48000) + speed) / (2 * speed)) := by ring
      _ ≤ _ := low
  · calc _ < 2 * speed * ((2 * (path * 48000) + speed) / (2 * speed) + 1) := high
      _ = _ := by ring

theorem talker_unplaced {s : State} {i : Fin 24} (h : (s.input i).settings.station = none) : s.talker i = none := by
  rw [State.talker, h]

theorem talker_undefined {s : State} {i : Fin 24} {n : Fin 32} (h : (s.input i).settings.station = some n)
    (undefined : (s.station n).defined = false) : s.talker i = none := by
  simp [State.talker, h, undefined]

theorem talker_placed {s : State} {i : Fin 24} {n : Fin 32} (h : (s.input i).settings.station = some n)
    (defined : (s.station n).defined = true) : s.talker i = some (s.station n).point := by
  simp [State.talker, h, defined]

@[simp] theorem geometricTerm_unplaced (zone : ZoneGeometry) (tu : Int) : geometricTerm none zone tu = 0 := rfl

theorem geometricTerm_near {p : Point} {zone : ZoneGeometry} (tu : Int)
    (h : distance p zone.listener ≤ distance zone.speaker zone.listener) : geometricTerm (some p) zone tu = 0 :=
  if_pos h

theorem geometricTerm_far {p : Point} {zone : ZoneGeometry} (tu : Int)
    (h : distance zone.speaker zone.listener < distance p zone.listener) :
    geometricTerm (some p) zone tu
      = samplesOfPath (distance p zone.listener - distance zone.speaker zone.listener) (speedOfSound tu).toNat :=
  if_neg (by omega)

end Sys2Proof.Machine

namespace Sys2Proof.Proofs

open Sys2Proof Sys2Proof.Machine Sys2Proof.Safety

/-- Settles O16: the root of `squareRoot_spec`, of a sum that is below 2^48 in the coordinate range. -/
theorem distanceIsTheRoundedRoot : Obligations.DistanceIsTheRoundedRoot := by
  intro p q px py pz qx qy qz
  have bound : squaredDistance p q < 2 ^ 48 := by
    have x := coordinateGap_sq_le px qx
    have y := coordinateGap_sq_le py qy
    have z := coordinateGap_sq_le pz qz
    unfold squaredDistance
    omega
  refine ⟨squareRoot (squaredDistance p q), squaredDistance p q, ?_, (squareRoot_spec bound).1,
    (squareRoot_spec bound).2, ?_⟩
  · simp only [squaredDistance, Nat.cast_add, coordinateGap_sq]
  · rw [distance, roundedRoot, pow_two]

/-- Settles O17: a temperature of either sign is rounded like its magnitude (`roundedTemperatureTerm_neg`). -/
theorem speedOfSoundIsRoundedAwayFromZero : Obligations.SpeedOfSoundIsRoundedAwayFromZero := by
  intro tu
  refine ⟨roundedTemperatureTerm tu, rfl, ?_⟩
  rcases le_total 0 tu with warm | cold
  · rw [roundedTemperatureTerm_of_nonneg warm]; omega
  · obtain ⟨n, rfl⟩ : ∃ n, tu = -n := ⟨-tu, by omega⟩
    rw [roundedTemperatureTerm_neg, roundedTemperatureTerm_of_nonneg (by omega)]; omega

/-- Settles O18: by where the input's talker stands, from `geometricTerm` in each case. -/
theorem delaySumIsTheRoundedPathDifference : Obligations.DelaySumIsTheRoundedPathDifference := by
  intro s x low high
  refine ⟨geometricTerm (s.talker (inputOf x)) (s.zone (zoneOf x)).geometry s.used, rfl, fun unplaced => ?_,
    fun n named => ⟨fun undefined => ?_, fun defined d1 d2 hd1 hd2 => ?_⟩⟩
  · rw [talker_unplaced unplaced, geometricTerm_unplaced]
  · rw [talker_undefined named undefined, geometricTerm_unplaced]
  · subst hd1 hd2
    rw [talker_placed named defined]
    refine ⟨geometricTerm_near _, fun far => ?_⟩
    have positive := speedOfSound_pos low high
    rw [geometricTerm_far _ far]
    exact ⟨(speedOfSound s.used).toNat, by omega, samplesOfPath_spec _ (by omega)⟩

end Sys2Proof.Proofs
end

section
/-! SUPPORT. R155, R160, R18, R20: a request that is taken and its reply; the notices that an event raises, put together
from those of its parts; what a recompute hands over and raises. -/

namespace Sys2Proof.Machine

open Sys2Proof.Safety

/-! ### Requests that are taken (R155) -/

theorem request_ready {s : State} {line : Line} (ready : Ready s line) (kind tag : Byte) (body : List Byte)
    (answer : State → Answer) : s.request line kind tag body answer = .next ((answer s).settle line kind tag) :=
  request_taken s kind tag body answer ready.1.1 ready.1.2 ready.2

section
variable {s : State} (ready : Ready s .control) (tag : Byte) (body : List Byte)
include ready

theorem exec_stat : exec (.stat tag body) s = .next ((s.answerStat body).settle .control 0x01 tag) :=
  request_ready ready 0x01 tag body fun s => s.answerStat body
theorem exec_inset : exec (.inset tag body) s = .next ((s.answerInset body).settle .control 0x08 tag) :=
  request_ready ready 0x08 tag body fun s => s.answerInset body
theorem exec_inget : exec (.inget tag body) s = .next ((s.answerInget body).settle .control 0x09 tag) :=
  request_ready ready 0x09 tag body fun s => s.answerInget body
theorem exec_znget : exec (.znget tag body) s = .next ((s.answerZnget body).settle .control 0x0B tag) :=
  request_ready ready 0x0B tag body fun s => s.answerZnget body
theorem exec_zngeo : exec (.zngeo tag body) s = .next ((s.answerZngeo body).settle .control 0x0C tag) :=
  request_ready ready 0x0C tag body fun s => s.answerZngeo body
theorem exec_stset : exec (.stset tag body) s = .next ((s.answerStset body).settle .control 0x10 tag) :=
  request_ready ready 0x10 tag body fun s => s.answerStset body
theorem exec_stget : exec (.stget tag body) s = .next ((s.answerStget body).settle .control 0x11 tag) :=
  request_ready ready 0x11 tag body fun s => s.answerStget body
theorem exec_clim : exec (.clim tag body) s = .next ((s.answerClim body).settle .control 0x12 tag) :=
  request_ready ready 0x12 tag body fun s => s.answerClim body
theorem exec_xprd : exec (.xprd tag body) s = .next ((s.answerXprd body).settle .control 0x19 tag) :=
  request_ready ready 0x19 tag body fun s => s.answerXprd body
theorem exec_olrd : exec (.olrd tag body) s = .next ((s.answerOlrd body).settle .control 0x21 tag) :=
  request_ready ready 0x21 tag body fun s => s.answerOlrd body
theorem exec_pnget : exec (.pnget tag body) s = .next ((s.answerPnget body).settle .control 0x29 tag) :=
  request_ready ready 0x29 tag body fun s => s.answerPnget body
theorem exec_scls : exec (.scls tag body) s = .next ((s.answerScls body).settle .control 0x33 tag) :=
  request_ready ready 0x33 tag body fun s => s.answerScls body
theorem exec_alrd : exec (.alrd tag body) s = .next ((s.answerAlrd body).settle .control 0x39 tag) :=
  request_ready ready 0x39 tag body fun s => s.answerAlrd body

end

/-- R155, R158, R167: the reply of a settled answer. -/
theorem settle_replied (a : Answer) (line : Line) (kind tag : Byte) :
    Replied (a.settle line kind tag) line kind tag a.result a.data := by
  rw [Replied, settle_line, Answer.settle, statusByte_setLine]
  rfl

theorem settle_control (a : Answer) (kind tag : Byte) :
    a.settle .control kind tag = { a.state with control := (a.settle .control kind tag).control } := rfl

theorem doneOrClamped_decide (clamped : Prop) [Decidable clamped] :
    doneOrClamped (decide clamped) = doneUnless clamped := by
  simp [doneOrClamped, doneUnless]

@[simp] theorem fitting_true (s : State) (answer : Answer) : s.fitting true answer = answer := rfl

@[simp] theorem withTarget_some {α : Type} (s : State) (target : α) (answer : α → Answer) :
    s.withTarget (some target) answer = answer target := rfl

@[simp] theorem withValue_some {α : Type} (s : State) (value : α) (answer : α → Answer) :
    s.withValue (some value) answer = answer value := rfl

/-! ### Notices raised (R160) -/

/-- What the raising of notices reads and writes is the same. -/
structure SameNotices (s t : State) : Prop where
  queue : t.queue = s.queue
  overflow : t.overflow = s.overflow
  subscribed : t.subscribed = s.subscribed
  stamp : t.stamp = s.stamp

/-- From `s` to `t` these notices alone have been raised, in this order, at one stamp and one set of subscriptions. -/
def Raises (s t : State) (notices : List (NoticeKind × Nat × Int)) : Prop := SameNotices (afterNotices s notices) t

section
variable {s t u : State}

theorem SameNotices.refl (s : State) : SameNotices s s := ⟨rfl, rfl, rfl, rfl⟩

theorem SameNotices.trans (h : SameNotices s t) (k : SameNotices t u) : SameNotices s u :=
  ⟨k.queue.trans h.queue, k.overflow.trans h.overflow, k.subscribed.trans h.subscribed, k.stamp.trans h.stamp⟩

theorem SameNotices.raise (h : SameNotices s t) (k : NoticeKind) (n : Nat) (v : Int) :
    SameNotices (s.raise k n v) (t.raise k n v) := by
  by_cases taken : s.subscribed.contains k = true
  · by_cases room : s.queue.length < 32
    · rw [raise_room s n v taken room, raise_room t n v (h.subscribed ▸ taken) (h.queue ▸ room)]
      exact ⟨by simp only [h.queue, h.stamp], h.overflow, h.subscribed, h.stamp⟩
    · rw [raise_full s n v taken room, raise_full t n v (h.subscribed ▸ taken) (h.queue ▸ room)]
      exact ⟨h.queue, rfl, h.subscribed, h.stamp⟩
  · rw [raise_unsubscribed s n v (by simpa using taken),
      raise_unsubscribed t n v (by rw [h.subscribed]; simpa using taken)]
    exact h

theorem SameNotices.afterNotices (h : SameNotices s t) (notices : List (NoticeKind × Nat × Int)) :
    SameNotices (afterNotices s notices) (afterNotices t notices) := by
  induction notices generalizing s t with
  | nil => exact h
  | cons n rest ih => exact ih (h.raise ..)

theorem Raises.notified {notices : List (NoticeKind × Nat × Int)} (h : Raises s t notices) : Notified s t notices :=
  ⟨h.queue, h.overflow⟩

theorem SameNotices.raises (h : SameNotices s t) : Raises s t [] := h

theorem Raises.raise (s : State) (k : NoticeKind) (n : Nat) (v : Int) : Raises s (s.raise k n v) [(k, n, v)] :=
  SameNotices.refl _

/-- What two events raise, both together raise one after the other. -/
theorem Raises.trans {first second : List (NoticeKind × Nat × Int)} (h : Raises s t first) (k : Raises t u second) :
    Raises s u (first ++ second) := by
  unfold Raises
  rw [Safety.afterNotices, List.foldl_append]
  exact (SameNotices.afterNotices h second).trans k

theorem Raises.then_same {notices : List (NoticeKind × Nat × Int)} (h : Raises s t notices) (k : SameNotices t u) :
    Raises s u notices := SameNotices.trans h k

theorem SameNotices.then_raises {notices : List (NoticeKind × Nat × Int)} (h : SameNotices s t)
    (k : Raises t u notices) : Raises s u notices := (h.afterNotices notices).trans k

theorem Raises.of_eq {notices others : List (NoticeKind × Nat × Int)} (h : Raises s t notices) (e : notices = others) :
    Raises s t others := e ▸ h

theorem setLine_sameNotices (s : State) (line : Line) (l : LineState) : SameNotices s (s.setLine line l) :=
  ⟨by simp, by simp, by simp, by simp⟩

end

/-! ### Recomputes (R17 to R20) -/

theorem raiseClamped_raises (s : State) (x : Fin 384) :
    Raises s (s.raiseClamped x)
      (if 16383 < s.delaySumOf x then [(.delayClamped, x.val, (s.delaySumOf x : Int))] else []) := by
  unfold State.raiseClamped
  split
  · exact .raise ..
  · exact SameNotices.refl s

theorem raiseClamped_foldl_raises (xs : List (Fin 384)) (s : State) :
    Raises s (xs.foldl State.raiseClamped s)
      ((xs.filter fun x => decide (16383 < s.delaySumOf x)).map fun x =>
        (.delayClamped, x.val, (s.delaySumOf x : Int))) := by
  induction xs generalizing s with
  | nil => exact SameNotices.refl s
  | cons x xs ih =>
    have sums (y : Fin 384) : (s.raiseClamped x).delaySumOf y = s.delaySumOf y :=
      (raiseClamped_onlyNotices s x).plan.delaySumOf y
    have rest := ih (s.raiseClamped x)
    simp only [sums] at rest
    refine ((raiseClamped_raises s x).trans rest).of_eq ?_
    by_cases clamped : 16383 < s.delaySumOf x <;> simp [clamped]

/-- R18, R20: a recompute raises the notices of the crosspoints it clamps, in ascending index. -/
theorem retime_raises (s : State) (which : Fin 384 → Bool) :
    Raises s (s.retime which) (clampedNotices s which) := by
  have put : SameNotices s (s.updateCrosspoints which s.retimed) := ⟨rfl, rfl, rfl, rfl⟩
  have raised := put.then_raises (raiseClamped_foldl_raises ((List.finRange 384).filter which) _)
  simp only [fun x => (updateCrosspoints_onlyPlan s which s.retimed).delaySumOf x, List.filter_filter,
    Bool.and_comm] at raised
  exact raised.of_eq (by simp only [clampedNotices])

theorem clampedNotices_congr {s t : State} {which other : Fin 384 → Bool} (same : ∀ x, which x = other x)
    (sums : ∀ x, t.delaySumOf x = s.delaySumOf x) : clampedNotices t which = clampedNotices s other := by
  simp only [clampedNotices, same, sums]

/-- The notices of a recompute, told of a later state of the same geometry. -/
theorem retime_raises_later {s t : State} {which other : Fin 384 → Bool} (later : KeepsTiming (s.retime which) t)
    (same : ∀ x, other x = which x) : Raises s (s.retime which) (clampedNotices t other) := by
  refine (retime_raises s which).of_eq (clampedNotices_congr same fun x => ?_).symm
  rw [(later.stands x).sum, retime_delaySumOf]

/-- What hands over a delay target depends on the geometry of the zone, the audibility of the input, and the sum. -/
theorem retimed_congr {s t : State} {x : Fin 384} {p q : Crosspoint} (h : Retimed s x p q)
    (mode : (t.input (inputOf x)).settings.mode = (s.input (inputOf x)).settings.mode)
    (gain : (t.input (inputOf x)).gain = (s.input (inputOf x)).gain)
    (geometry : (t.zone (zoneOf x)).geometry = (s.zone (zoneOf x)).geometry)
    (sum : t.delaySumOf x = s.delaySumOf x) : Retimed t x p q := by
  unfold Retimed Inaudible moveFramesAt
  rw [mode, gain, geometry, sum]
  exact h

theorem OnlyPlan.retimed {s t : State} {x : Fin 384} {p q : Crosspoint} (h : OnlyPlan s t) (k : Retimed s x p q) :
    Retimed t x p q := by
  have sum := h.delaySumOf x
  obtain ⟨_, _, _, rfl⟩ := h
  exact retimed_congr k rfl rfl rfl sum

theorem setLine_retimed {s : State} {x : Fin 384} {p q : Crosspoint} (k : Retimed s x p q) (line : Line)
    (l : LineState) : Retimed (s.setLine line l) x p q :=
  retimed_congr k (by simp) (by simp) (by simp) ((setLine_keepsTiming s line l).stands x).sum

variable {s : State} {which : Fin 384 → Bool} {x : Fin 384} {p : Crosspoint}

/-- R17, R80 to R82: a recompute hands its crosspoints their targets, and leaves every gain and every other
crosspoint. -/
theorem retime_retimed (before : s.crosspoint x = p) (h : which x = true) :
    Retimed (s.retime which) x p ((s.retime which).crosspoint x) := by
  rw [retime_crosspoint, if_pos h, before]
  exact (retime_onlyPlan s which).retimed (retimed_retimed s x _).1

theorem retime_sameGains (before : s.crosspoint x = p) : SameGains p ((s.retime which).crosspoint x) := by
  rw [retime_crosspoint, before]
  split
  · exact (retimed_retimed s x _).2
  · exact ⟨rfl, rfl, rfl, rfl⟩

theorem retime_crosspoint_other (before : s.crosspoint x = p) (h : which x = false) :
    (s.retime which).crosspoint x = p := by simp [retime_crosspoint, h, before]

end Sys2Proof.Machine
end

section
/-! SUPPORT. R165, R166, Tables 10-4, 10-8 and 10-9: what bytes hold at an offset of a body or of a reply, read back part
by part. -/

namespace Sys2Proof.Machine

open Sys2Proof.Safety

/-- These bytes stand at an offset of the data. -/
def Holds (data : List Byte) (o : Nat) (bytes : List Byte) : Prop := bytes <+: data.drop o

theorem holds_self (data : List Byte) : Holds data 0 data := List.prefix_refl data

/-- What stands in parts stands part by part. -/
theorem holds_append {data xs ys : List Byte} {o : Nat} :
    Holds data o (xs ++ ys) ↔ Holds data o xs ∧ Holds data (o + xs.length) ys := by
  unfold Holds
  rw [← List.drop_drop]
  generalize data.drop o = rest
  constructor
  · rintro ⟨tail, rfl⟩
    exact ⟨⟨ys ++ tail, (List.append_assoc ..).symm⟩, by simp⟩
  · rintro ⟨⟨tail, rfl⟩, h⟩
    rw [List.drop_left] at h
    exact (List.prefix_append_right_inj xs).2 h

variable {data : List Byte} {o : Nat}

theorem byteAt_of_holds {b : Byte} (h : Holds data o [b]) : byteAt data o = b := by
  obtain ⟨tail, h⟩ := h
  have head : data[o]? = some b := by
    rw [← Nat.add_zero o, ← List.getElem?_drop, ← h]
    rfl
  rw [byteAt, List.getD_eq_getElem?_getD, head]
  rfl

/-! ### Numbers (R165) -/

@[simp] theorem length_byteOf (v : Int) : (byteOf v).length = 1 := rfl

@[simp] theorem length_word16 (v : Int) : (word16 v).length = 2 := rfl

@[simp] theorem length_word32 (v : Int) : (word32 v).length = 4 := rfl

@[simp] theorem length_flagByte (b : Bool) : (flagByte b).length = 1 := rfl

@[simp] theorem length_labelBytes (label : List Byte) : (labelBytes label).length = 1 + label.length := by
  simp [labelBytes]

theorem byteIs_of_holds {v : Int} (h : Holds data o (byteOf v)) : ByteIs data o v := by
  rw [ByteIs, show byteNumber data o = (byteAt data o).toNat from rfl, byteAt_of_holds h, BitVec.toNat_ofInt]
  omega

theorem wordIs_of_holds {v : Int} (h : Holds data o (word16 v)) : WordIs data o v := by
  have parts : Holds data o ([(BitVec.ofInt 16 v).extractLsb' 0 8] ++ [(BitVec.ofInt 16 v).extractLsb' 8 8]) := h
  obtain ⟨low, high⟩ := holds_append.1 parts
  rw [WordIs, wordNumber, show byteNumber data o = (byteAt data o).toNat from rfl, byteAt_of_holds low,
    show byteNumber data (o + 1) = (byteAt data (o + 1)).toNat from rfl, byteAt_of_holds (o := o + 1) high]
  have value : ((BitVec.ofInt 16 v).toNat : Int) = v % 65536 := by
    rw [BitVec.toNat_ofInt]; omega
  rw [← value]
  simp only [BitVec.extractLsb'_toNat, Nat.shiftRight_eq_div_pow]
  have bound := (BitVec.ofInt 16 v).isLt
  omega

/-- A flag is a byte of its number (Table 10-4). -/
theorem flagByte_eq (b : Bool) : flagByte b = byteOf b.toNat := by cases b <;> rfl

theorem modeByte_eq (m : InputMode) : modeByte m = byteOf (modeCode m) := by cases m <;> rfl

theorem areaByte_eq (k : Option Area) : areaByte k = byteOf (areaCode k) := by
  cases k with
  | none => rfl
  | some k => cases k <;> rfl

theorem indexByte_eq {n : Nat} (i : Option (Fin n)) : indexByte i = byteOf (numberCode i) := by
  cases i <;> rfl

section
variable {n : Nat}

theorem natAt_of_holds (h : Holds data o (byteOf n)) (fits : n ≤ 255) : natAt data o = n := by
  have value : ((natAt data o : Nat) : Int) = (n : Int) % 256 := byteIs_of_holds h
  omega

theorem nat16At_of_holds (h : Holds data o (word16 n)) (fits : n ≤ 65535) : nat16At data o = n := by
  have value : ((nat16At data o : Nat) : Int) = (n : Int) % 65536 := wordIs_of_holds h
  omega

theorem int16At_of_holds {v : Int} (h : Holds data o (word16 v)) (fits : Signed16 v) : int16At data o = v := by
  have value : ((nat16At data o : Nat) : Int) = v % 65536 := wordIs_of_holds h
  obtain ⟨low, high⟩ := fits
  rw [int16At, BitVec.toInt_ofNat', value]
  exact (Int.emod_bmod ..).trans (Int.bmod_eq_of_le (by norm_num; omega) (by norm_num; omega))

end

/-! ### Codes (Table 10-4) -/

theorem flag_of_holds {b : Bool} (h : Holds data o (flagByte b)) : flag? (byteAt data o) = some b := by
  rw [byteAt_of_holds h]
  cases b <;> rfl

theorem mode_of_holds {m : InputMode} (h : Holds data o (modeByte m)) : mode? (byteAt data o) = some m := by
  cases m <;> rw [byteAt_of_holds h] <;> rfl

theorem areaOrNone_of_holds {k : Option Area} (h : Holds data o (areaByte k)) :
    areaOrNone? (byteAt data o) = some k := by
  cases k with
  | none => rw [byteAt_of_holds h]; rfl
  | some k => cases k <;> rw [byteAt_of_holds h] <;> rfl

theorem area_of_holds {k : Area} (h : Holds data o (areaByte (some k))) : area? (byteAt data o) = some k := by
  rw [area?, areaOrNone_of_holds h]
  rfl

theorem oneBased_of_holds {n : Nat} {i : Fin n} (h : Holds data o (byteOf (i.val + 1))) (fits : n ≤ 255) :
    oneBased? n (byteAt data o) = some i := by
  have value : (byteAt data o).toNat = i.val + 1 := natAt_of_holds h (by omega)
  simp [oneBased?, value, i.isLt]

theorem zeroOrOneBased_of_holds {n : Nat} {i : Option (Fin n)} (h : Holds data o (indexByte i)) (fits : n ≤ 255) :
    zeroOrOneBased? n (byteAt data o) = some i := by
  cases i with
  | none => rw [byteAt_of_holds h]; rfl
  | some i =>
    have value : (byteAt data o).toNat = i.val + 1 := natAt_of_holds h (by omega)
    have nonzero : byteAt data o ≠ 0 := fun zero => by simp [zero] at value
    rw [zeroOrOneBased?, if_neg nonzero, oneBased_of_holds h fits]
    rfl

theorem slot_of_holds {k : Fin 64} (h : Holds data o (byteOf k.val)) : slot? (byteAt data o) = some k := by
  have value : (byteAt data o).toNat = k.val := natAt_of_holds h (by omega)
  simp [slot?, value, k.isLt]

/-! ### Labels (R165, R174, R176) -/

section
variable {label : List Byte} {greatest : Nat}

/-- A label that ends the data. -/
theorem labelAt_of_holds (h : Holds data o (labelBytes label)) (ends : data.length = o + (1 + label.length)) :
    labelAt data o = label := by
  have characters : Holds data (o + 1) label := (holds_append.1 h).2
  refine (characters.eq_of_length ?_).symm
  rw [List.length_drop, ends]
  omega

theorem labelFits_of_holds (h : Holds data o (labelBytes label)) (ends : data.length = o + (1 + label.length))
    (fits : label.length ≤ greatest) (byte : greatest ≤ 255) : labelFits data o greatest = true := by
  have count : natAt data o = label.length := natAt_of_holds (holds_append.1 h).1 (by omega)
  simp only [labelFits, count, decide_eq_true_eq]
  omega

theorem labelOk_of_fits (h : LabelFits label greatest) : labelOk label = true := by
  simpa [labelOk] using h.2

end

/-! ### Records -/

section
variable {p : Point}

@[simp] theorem length_pointBytes : p.bytes.length = 6 := rfl

theorem readPoint_of_holds (h : Holds data o p.bytes) (sent : PointSent p) : readPoint data o = p := by
  obtain ⟨x, y, z⟩ := sent
  simp only [Point.bytes, holds_append, List.length_append, length_word16] at h
  obtain ⟨⟨hx, hy⟩, hz⟩ := h
  rw [readPoint, nat16At_of_holds hx x, nat16At_of_holds hy y, nat16At_of_holds hz z]

end

theorem inputSettings_of_holds {x : InputSettings} (h : Holds data o x.bytes) (sent : InputSent x) :
    readInputSettings data o = some x := by
  obtain ⟨trim, priority, offset, debounce, hold, attack, release⟩ := sent
  simp only [InputSettings.bytes, holds_append, List.length_append, modeByte_eq, indexByte_eq, areaByte_eq,
    length_byteOf, length_word16] at h
  simp only [← modeByte_eq, ← indexByte_eq, ← areaByte_eq] at h
  obtain ⟨⟨⟨⟨⟨⟨⟨⟨⟨⟨hmode, htrim⟩, hstation⟩, harea⟩, hpriority⟩, hoffset⟩, hdebounce⟩, hhold⟩, hattack⟩, hrelease⟩, hlast⟩ := h
  rw [readInputSettings, mode_of_holds hmode, zeroOrOneBased_of_holds hstation (by omega), areaOrNone_of_holds harea,
    flag_of_holds hlast]
  simp only [int16At_of_holds htrim trim, natAt_of_holds hpriority priority, nat16At_of_holds hoffset offset,
    natAt_of_holds hdebounce debounce, natAt_of_holds hhold hold, natAt_of_holds hattack attack, natAt_of_holds hrelease release]

/-! ### Limits (R157, R175) -/

theorem limitInt_eq {low high : Int} (h : low ≤ high) (v : Int) : limitInt low high v = max low (min high v) := by
  unfold limitInt
  split_ifs <;> omega

theorem limitNat_eq {low high : Nat} (h : low ≤ high) (v : Nat) : limitNat low high v = max low (min high v) := by
  unfold limitNat
  split_ifs <;> omega

theorem pointLimit_eq (p : Point) : p.limit = pointTaken p := by
  simp [Point.limit, pointTaken, limitNat_eq]

theorem stationLimit_eq (x : Station) : x.limit = stationTaken x := by
  simp [Station.limit, stationTaken, pointLimit_eq]

theorem geometryLimit_eq (x : ZoneGeometry) : x.limit = geometryTaken x := by
  simp [ZoneGeometry.limit, geometryTaken, pointLimit_eq, limitNat_eq]

theorem inputLimit_eq (x : InputSettings) : x.limit = inputTaken x := by
  simp [InputSettings.limit, inputTaken, limitInt_eq, limitNat_eq]

end Sys2Proof.Machine
end

section
/-! PROOFS. O20 to O22: STSET, ZNGEO and CLIM. -/

namespace Sys2Proof.Machine

open Sys2Proof.Safety

/-! ### Bodies read back (R5, R8, R12, R174) -/

section
variable {body : List Byte} {o : Nat}

theorem readStation_of_holds {x : Station} (defined : Holds body o (flagByte x.defined))
    (point : Holds body (o + 1) x.point.bytes) (label : Holds body (o + 7) (labelBytes x.label))
    (ends : body.length = o + 7 + (1 + x.label.length)) (sent : StationSent x) : readStation body o = some x := by
  obtain ⟨characters, coordinates⟩ := sent
  rw [readStation, flag_of_holds defined, labelAt_of_holds label ends, labelOk_of_fits characters,
    readPoint_of_holds point coordinates]

theorem readZoneGeometry_of_holds {x : ZoneGeometry} (h : Holds body o x.bytes)
    (ends : body.length = o + 18 + (1 + x.label.length)) (sent : GeometrySent x) :
    readZoneGeometry body o = some x := by
  obtain ⟨characters, speaker, listener, precedence, extra, move, slew⟩ := sent
  simp only [ZoneGeometry.bytes, holds_append, List.length_append, length_pointBytes, length_word16,
    length_byteOf] at h
  obtain ⟨⟨⟨⟨⟨⟨hspeaker, hlistener⟩, hprecedence⟩, hextra⟩, hmove⟩, hslew⟩, hlabel⟩ := h
  rw [readZoneGeometry, labelAt_of_holds hlabel ends, labelOk_of_fits characters, if_pos rfl,
    readPoint_of_holds hspeaker speaker, readPoint_of_holds hlistener listener, nat16At_of_holds hprecedence precedence,
    nat16At_of_holds hextra extra, natAt_of_holds hmove move, natAt_of_holds hslew slew]

end

/-- R12, R174: the parts of a CLIM that are present. -/
def partsSent (withReport withSettings : Bool) (report default : Int) (climateStep : Nat) : ClimateParts :=
  { report := if withReport then some report else none,
    settings := if withSettings then some (default, climateStep) else none }

theorem readClimate_of_holds {body : List Byte} {withReport withSettings : Bool} {report default : Int}
    {climateStep : Nat}
    (parts : Holds body 0 (byteOf ((if withReport then 1 else 0) + (if withSettings then 2 else 0))))
    (hreport : Holds body 1 (word16 report)) (hdefault : Holds body 3 (word16 default))
    (hstep : Holds body 5 (byteOf climateStep)) (sent : Signed16 report) (sentDefault : Signed16 default)
    (sentStep : Unsigned8 climateStep) :
    readClimate body = some (partsSent withReport withSettings report default climateStep) := by
  have code := byteAt_of_holds parts
  rw [readClimate, natAt, code, int16At_of_holds hreport sent, int16At_of_holds hdefault sentDefault,
    natAt_of_holds hstep sentStep]
  cases withReport <;> cases withSettings <;> rfl

theorem partsSent_limit (withReport withSettings : Bool) (report default : Int) (climateStep : Nat) :
    (partsSent withReport withSettings report default climateStep).limit
      = partsSent withReport withSettings (temperatureTaken report) (temperatureTaken default)
          (max 1 (min 50 climateStep)) := by
  cases withReport <;> cases withSettings <;>
    simp [partsSent, ClimateParts.limit, limitInt_eq, limitNat_eq, temperatureTaken]

theorem partsSent_ne_iff {withReport withSettings : Bool} {report default report' default' : Int}
    {climateStep climateStep' : Nat} :
    partsSent withReport withSettings report' default' climateStep'
        ≠ partsSent withReport withSettings report default climateStep
      ↔ (withReport = true ∧ report' ≠ report)
        ∨ (withSettings = true ∧ (default' ≠ default ∨ climateStep' ≠ climateStep)) := by
  cases withReport <;> cases withSettings <;>
    simp only [partsSent, ne_eq, ClimateParts.mk.injEq, Option.some.injEq, Prod.mk.injEq, if_true, true_and, and_true,
      false_and, or_false, false_or, Bool.false_eq_true, if_false, not_true_eq_false] <;> tauto

variable (s : State)

/-! ### How the requests are settled (R155 to R157) -/

theorem answerStset_of_holds {body : List Byte} {n : Fin 32} {x : Station}
    (held : Holds body 0 (byteOf (n.val + 1) ++ flagByte x.defined ++ x.point.bytes ++ labelBytes x.label))
    (ends : body.length = 8 + (1 + x.label.length)) (sent : StationSent x) :
    s.answerStset body = ⟨s.changeStation n (stationTaken x), doneUnless (stationTaken x ≠ x), []⟩ := by
  simp only [holds_append, List.length_append, length_byteOf, length_flagByte, length_pointBytes] at held
  obtain ⟨⟨⟨station, defined⟩, point⟩, label⟩ := held
  rw [State.answerStset, labelFits_of_holds (o := 8) label ends sent.1.1 (by decide), fitting_true,
    oneBased_of_holds station (by decide), withTarget_some, readStation_of_holds defined point label ends sent,
    withValue_some, stationLimit_eq, doneOrClamped_decide]

theorem answerZngeo_of_holds {body : List Byte} {z : Fin 16} {x : ZoneGeometry}
    (held : Holds body 0 (byteOf (z.val + 1) ++ x.bytes)) (ends : body.length = 19 + (1 + x.label.length))
    (sent : GeometrySent x) :
    s.answerZngeo body = ⟨s.changeZoneGeometry z (geometryTaken x), doneUnless (geometryTaken x ≠ x), []⟩ := by
  obtain ⟨zone, record⟩ := holds_append.1 held
  have record : Holds body 1 x.bytes := record
  have label : Holds body 19 (labelBytes x.label) := by
    simp only [ZoneGeometry.bytes, holds_append, List.length_append, length_pointBytes, length_word16,
      length_byteOf] at record
    exact record.2
  rw [State.answerZngeo, labelFits_of_holds label ends sent.1.1 (by decide), fitting_true,
    oneBased_of_holds zone (by decide), withTarget_some, readZoneGeometry_of_holds record ends sent, withValue_some,
    geometryLimit_eq, doneOrClamped_decide]

theorem answerClim_of_holds {body : List Byte} {withReport withSettings : Bool} {report default : Int}
    {climateStep : Nat}
    (held : Holds body 0 (byteOf ((if withReport then 1 else 0) + (if withSettings then 2 else 0)) ++ word16 report
      ++ word16 default ++ byteOf climateStep))
    (ends : body.length = 6) (sent : Signed16 report) (sentDefault : Signed16 default)
    (sentStep : Unsigned8 climateStep) :
    s.answerClim body
      = ⟨s.takeClimate (partsSent withReport withSettings (temperatureTaken report) (temperatureTaken default)
            (max 1 (min 50 climateStep))),
          doneUnless ((withReport = true ∧ temperatureTaken report ≠ report)
            ∨ (withSettings = true ∧ (temperatureTaken default ≠ default ∨ max 1 (min 50 climateStep) ≠ climateStep))),
          []⟩ := by
  simp only [holds_append, List.length_append, length_byteOf, length_word16] at held
  obtain ⟨⟨⟨parts, hreport⟩, hdefault⟩, hstep⟩ := held
  rw [State.answerClim, show lengthIs body 6 = true from decide_eq_true ends, fitting_true,
    readClimate_of_holds parts hreport hdefault hstep sent sentDefault sentStep, withValue_some, partsSent_limit,
    doneOrClamped_decide]
  simp only [partsSent_ne_iff]

/-! ### What an STSET does (R5, R20) -/

theorem moved_station_iff {old new : Station} :
    old.moved new = true ↔ old.defined ≠ new.defined ∨ old.point ≠ new.point := decide_eq_true_iff

theorem changeStation_of_moved {n : Fin 32} {new : Station} (h : (s.station n).moved new = true) :
    s.changeStation n new = ({ s with stations := s.stations.set n new } : State).retime (s.ofStation n) := if_pos h

theorem changeStation_of_unmoved {n : Fin 32} {new : Station} (h : ¬ (s.station n).moved new = true) :
    s.changeStation n new = { s with stations := s.stations.set n new } := if_neg h

theorem changeStation_onlyPlan (n : Fin 32) (new : Station) :
    OnlyPlan { s with stations := s.stations.set n new } (s.changeStation n new) := by
  by_cases h : (s.station n).moved new = true
  · rw [changeStation_of_moved s h]; exact retime_onlyPlan ..
  · rw [changeStation_of_unmoved s h]; exact .refl _

theorem changeStation_sameGains (n : Fin 32) (new : Station) (y : Fin 384) :
    SameGains (s.crosspoint y) ((s.changeStation n new).crosspoint y) := by
  by_cases h : (s.station n).moved new = true
  · rw [changeStation_of_moved s h]; exact retime_sameGains rfl
  · rw [changeStation_of_unmoved s h]; exact ⟨rfl, rfl, rfl, rfl⟩

theorem changeStation_crosspoint_other {n : Fin 32} (new : Station) {y : Fin 384}
    (other : (s.input (inputOf y)).settings.station ≠ some n) :
    (s.changeStation n new).crosspoint y = s.crosspoint y := by
  by_cases h : (s.station n).moved new = true
  · rw [changeStation_of_moved s h]
    exact retime_crosspoint_other rfl (by simpa [State.ofStation] using other)
  · rw [changeStation_of_unmoved s h]; rfl

/-! ### What a ZNGEO does (R8, R9, R20) -/

theorem moved_geometry_iff {old new : ZoneGeometry} :
    old.moved new = true ↔ old.speaker ≠ new.speaker ∨ old.listener ≠ new.listener ∨ old.precedence ≠ new.precedence
      ∨ old.extra ≠ new.extra := decide_eq_true_iff

theorem changeZoneGeometry_of_moved {z : Fin 16} {new : ZoneGeometry} (h : (s.zone z).geometry.moved new = true) :
    s.changeZoneGeometry z new = (s.setZone z { s.zone z with geometry := new }).retime (ofZone z) := if_pos h

theorem changeZoneGeometry_of_unmoved {z : Fin 16} {new : ZoneGeometry}
    (h : ¬ (s.zone z).geometry.moved new = true) :
    s.changeZoneGeometry z new = s.setZone z { s.zone z with geometry := new } := if_neg h

theorem changeZoneGeometry_onlyPlan (z : Fin 16) (new : ZoneGeometry) :
    OnlyPlan (s.setZone z { s.zone z with geometry := new }) (s.changeZoneGeometry z new) := by
  by_cases h : (s.zone z).geometry.moved new = true
  · rw [changeZoneGeometry_of_moved s h]; exact retime_onlyPlan ..
  · rw [changeZoneGeometry_of_unmoved s h]; exact .refl _

theorem changeZoneGeometry_sameGains (z : Fin 16) (new : ZoneGeometry) (y : Fin 384) :
    SameGains (s.crosspoint y) ((s.changeZoneGeometry z new).crosspoint y) := by
  by_cases h : (s.zone z).geometry.moved new = true
  · rw [changeZoneGeometry_of_moved s h]; exact retime_sameGains rfl
  · rw [changeZoneGeometry_of_unmoved s h]; exact ⟨rfl, rfl, rfl, rfl⟩

theorem changeZoneGeometry_crosspoint_other {z : Fin 16} (new : ZoneGeometry) {y : Fin 384} (other : zoneOf y ≠ z) :
    (s.changeZoneGeometry z new).crosspoint y = s.crosspoint y := by
  by_cases h : (s.zone z).geometry.moved new = true
  · rw [changeZoneGeometry_of_moved s h]
    exact retime_crosspoint_other rfl (by simpa [ofZone] using other)
  · rw [changeZoneGeometry_of_unmoved s h]; rfl

/-! ### What a CLIM does (R12, R13, R21) -/

/-- R13: the state of a climate shift before its recompute: the temperatures, and CLIMATE-STEP. -/
def State.shifted (s : State) (report : Int) : State :=
  { s with reported := some report, used := report }.raise .climateStep 0 report

theorem isClimateShift_iff (report : Int) :
    s.isClimateShift report = true ↔ s.climateStep ≤ (report - s.used).natAbs := decide_eq_true_iff

theorem takeReport_shift {report : Int} (h : s.climateStep ≤ (report - s.used).natAbs) :
    s.takeReport report = (s.shifted report).retime everyCrosspoint := by
  rw [State.takeReport, if_pos ((isClimateShift_iff ..).2 h)]
  rfl

theorem takeReport_small {report : Int} (h : (report - s.used).natAbs < s.climateStep) :
    s.takeReport report = { s with reported := some report } :=
  if_neg fun shift => Nat.not_le.2 h ((isClimateShift_iff ..).1 shift)

theorem shifted_onlyNotices (report : Int) :
    OnlyNotices { s with reported := some report, used := report } (s.shifted report) := raise_onlyNotices ..

/-- R12: the settings part of a CLIM comes first. -/
def State.climateSet (s : State) (withSettings : Bool) (default : Int) (climateStep : Nat) : State :=
  if withSettings then s.takeClimateSettings default climateStep else s

theorem takeClimate_partsSent (withReport withSettings : Bool) (report default : Int) (climateStep : Nat) :
    s.takeClimate (partsSent withReport withSettings report default climateStep)
      = if withReport then (s.climateSet withSettings default climateStep).takeReport report
        else s.climateSet withSettings default climateStep := by
  cases withReport <;> cases withSettings <;> rfl

theorem climateSet_eq (withSettings : Bool) (default : Int) (climateStep : Nat) :
    s.climateSet withSettings default climateStep
      = { s with defaultTemp := if withSettings then default else s.defaultTemp,
                 climateStep := if withSettings then climateStep else s.climateStep } := by
  cases withSettings <;> rfl

theorem climateSet_stands (withSettings : Bool) (default : Int) (climateStep : Nat) :
    SameNotices s (s.climateSet withSettings default climateStep)
      ∧ (s.climateSet withSettings default climateStep).used = s.used
      ∧ (s.climateSet withSettings default climateStep).crosspoints = s.crosspoints := by
  rw [climateSet_eq]
  exact ⟨⟨rfl, rfl, rfl, rfl⟩, rfl, rfl⟩

theorem takeReport_touches (report : Int) :
    ∃ u c q o, s.takeReport report
      = { s with reported := some report, used := u, crosspoints := c, queue := q, overflow := o } := by
  by_cases h : s.climateStep ≤ (report - s.used).natAbs
  · obtain ⟨_, _, _, e⟩ := (shifted_onlyNotices s report).plan.trans (retime_onlyPlan _ everyCrosspoint)
    exact ⟨_, _, _, _, by rw [takeReport_shift s h]; exact e⟩
  · exact ⟨_, _, _, _, takeReport_small s (Nat.not_le.1 h)⟩

theorem takeReport_settings (report : Int) :
    (s.takeReport report).defaultTemp = s.defaultTemp ∧ (s.takeReport report).climateStep = s.climateStep
      ∧ (s.takeReport report).reported = some report := by
  obtain ⟨_, _, _, _, e⟩ := takeReport_touches s report
  rw [e]
  exact ⟨rfl, rfl, rfl⟩

/-- R13, R18, R21: a climate shift puts the report in use, hands every crosspoint its target, and raises CLIMATE-STEP and
then the notices of the recompute. -/
theorem takeReport_shifts {report : Int} (h : s.climateStep ≤ (report - s.used).natAbs) :
    (s.takeReport report).used = report
      ∧ (∀ y, SameGains (s.crosspoint y) ((s.takeReport report).crosspoint y)
          ∧ Retimed (s.takeReport report) y (s.crosspoint y) ((s.takeReport report).crosspoint y))
      ∧ Raises s (s.takeReport report)
          ((.climateStep, 0, report) :: clampedNotices (s.takeReport report) fun _ => true) := by
  have record (y : Fin 384) : (s.shifted report).crosspoint y = s.crosspoint y := raise_crosspoint ..
  rw [takeReport_shift s h]
  refine ⟨?_, fun y => ⟨retime_sameGains (record y), retime_retimed (record y) rfl⟩, ?_⟩
  · obtain ⟨_, _, _, e⟩ := (shifted_onlyNotices s report).plan.trans (retime_onlyPlan _ everyCrosspoint)
    rw [e]
  · have put : SameNotices s { s with reported := some report, used := report } := ⟨rfl, rfl, rfl, rfl⟩
    have stepped : Raises s (s.shifted report) [(.climateStep, 0, report)] :=
      put.then_raises (Raises.raise _ .climateStep 0 report)
    have raised : Raises (s.shifted report) ((s.shifted report).retime everyCrosspoint)
        (clampedNotices ((s.shifted report).retime everyCrosspoint) fun _ => true) :=
      retime_raises_later (.refl _) fun _ => rfl
    exact (stepped.trans raised).of_eq List.singleton_append

end Sys2Proof.Machine

namespace Sys2Proof.Proofs

open Sys2Proof Sys2Proof.Machine Sys2Proof.Safety

/-- Settles O20: an STSET puts its entry in force, and where that moves the station it recomputes (`retime`) the
crosspoints of the inputs that name it. -/
theorem stsetSetsAStation : Obligations.StsetSetsAStation := by
  intro s tag n x ready sent
  have taken := exec_stset ready tag (byteOf (n.val + 1) ++ flagByte x.defined ++ x.point.bytes ++ labelBytes x.label)
  rw [answerStset_of_holds s (holds_self _) (by simp; omega) sent] at taken
  obtain ⟨_, _, _, frame⟩ := changeStation_onlyPlan s n (stationTaken x)
  refine ⟨_, taken, ?frame, ?station, fun m other => ?others, settle_replied .., fun y other => ?elsewhere,
    fun y => ?gains, fun defined point => ?stands, fun moved => ?moves⟩
  case frame => rw [Answer.settle, frame]; rfl
  case station => rw [Answer.settle, setLine_station, frame]; exact station_set_self ..
  case others => rw [Answer.settle, setLine_station, frame]; exact station_set_ne _ (Ne.symm other)
  case elsewhere => rw [Answer.settle, setLine_crosspoint]; exact changeStation_crosspoint_other s _ other
  case gains => rw [Answer.settle, setLine_crosspoint]; exact changeStation_sameGains ..
  case stands =>
    have unmoved : ¬ (s.station n).moved (stationTaken x) = true := fun moved =>
      (moved_station_iff.1 moved).elim (absurd defined) (absurd point)
    rw [Answer.settle, changeStation_of_unmoved s unmoved]
    exact ⟨rfl, rfl, rfl⟩
  case moves =>
    rw [Answer.settle, changeStation_of_moved s (moved_station_iff.2 moved)]
    refine ⟨fun y named => ?_, ?_⟩
    · rw [setLine_crosspoint]
      exact setLine_retimed (retime_retimed rfl (by simp [State.ofStation, named])) ..
    · have put : SameNotices s { s with stations := s.stations.set n (stationTaken x) } := ⟨rfl, rfl, rfl, rfl⟩
      exact ((put.then_raises (retime_raises_later (setLine_keepsTiming ..) fun _ => rfl)).then_same
        (setLine_sameNotices ..)).notified

/-- Settles O21: a ZNGEO puts its entry in force, and where that changes a delay sum's geometry it recomputes (`retime`)
the crosspoints of the zone. -/
theorem zngeoSetsAZonesGeometry : Obligations.ZngeoSetsAZonesGeometry := by
  intro s tag z x ready sent
  have taken := exec_zngeo ready tag (byteOf (z.val + 1) ++ x.bytes)
  rw [answerZngeo_of_holds s (holds_self _) (by simp [ZoneGeometry.bytes]; omega) sent] at taken
  obtain ⟨_, _, _, frame⟩ := changeZoneGeometry_onlyPlan s z (geometryTaken x)
  refine ⟨_, taken, ?frame, ?zone, fun w other => ?others, settle_replied .., fun y other => ?elsewhere,
    fun y => ?gains, fun speaker listener precedence extra => ?stands, fun moved => ?moves⟩
  case frame => rw [Answer.settle, frame]; rfl
  case zone => rw [Answer.settle, setLine_zone, frame]; exact setZone_zone_self ..
  case others =>
    rw [Answer.settle, setLine_zone, frame]
    exact (setZone_zone s z w _).trans (if_neg (Ne.symm other))
  case elsewhere => rw [Answer.settle, setLine_crosspoint]; exact changeZoneGeometry_crosspoint_other s _ other
  case gains => rw [Answer.settle, setLine_crosspoint]; exact changeZoneGeometry_sameGains ..
  case stands =>
    have unmoved : ¬ (s.zone z).geometry.moved (geometryTaken x) = true := by
      rw [moved_geometry_iff]
      rintro (h | h | h | h)
      exacts [h speaker, h listener, h precedence, h extra]
    rw [Answer.settle, changeZoneGeometry_of_unmoved s unmoved]
    exact ⟨rfl, rfl, rfl⟩
  case moves =>
    rw [Answer.settle, changeZoneGeometry_of_moved s (moved_geometry_iff.2 moved)]
    refine ⟨fun y named => ?_, ?_⟩
    · rw [setLine_crosspoint]
      exact setLine_retimed (retime_retimed rfl (by simp [ofZone, named])) ..
    · have put : SameNotices s (s.setZone z { s.zone z with geometry := geometryTaken x }) := ⟨rfl, rfl, rfl, rfl⟩
      exact ((put.then_raises (retime_raises_later (setLine_keepsTiming ..) fun _ => rfl)).then_same
        (setLine_sameNotices ..)).notified

/-- Settles O22: a CLIM puts its settings in force (`climateSet`), and its report is then a climate shift (`shifted`,
`retime`) or is taken alone. -/
theorem climTakesSettingsAndThenTheReport : Obligations.ClimTakesSettingsAndThenTheReport := by
  intro s tag withReport withSettings report default climateStep ready sent sentDefault sentStep
  have taken := exec_clim ready tag (byteOf ((if withReport then 1 else 0) + (if withSettings then 2 else 0))
    ++ word16 report ++ word16 default ++ byteOf climateStep)
  rw [answerClim_of_holds s (holds_self _) rfl sent sentDefault sentStep, takeClimate_partsSent] at taken
  refine ⟨_, taken, ?frame, settle_replied .., fun carried => ?settings, fun absent => ?noSettings,
    fun absent => ?noReport, fun carried => ?reported⟩
  case frame =>
    cases withReport
    · rw [Answer.settle, if_neg Bool.false_ne_true, climateSet_eq]; rfl
    · obtain ⟨_, _, _, _, e⟩ := takeReport_touches
        (s.climateSet withSettings (temperatureTaken default) (max 1 (min 50 climateStep))) (temperatureTaken report)
      rw [Answer.settle, if_pos rfl, e, climateSet_eq]; rfl
  case settings =>
    subst carried
    cases withReport
    · exact ⟨rfl, rfl⟩
    · obtain ⟨set, step, _⟩ := takeReport_settings
        (s.climateSet true (temperatureTaken default) (max 1 (min 50 climateStep))) (temperatureTaken report)
      exact ⟨set, step⟩
  case noSettings =>
    subst absent
    cases withReport
    · exact ⟨rfl, rfl⟩
    · obtain ⟨set, step, _⟩ := takeReport_settings s (temperatureTaken report)
      exact ⟨set, step⟩
  case noReport =>
    subst absent
    rw [Answer.settle, if_neg Bool.false_ne_true, climateSet_eq]
    exact ⟨rfl, rfl, rfl, rfl, rfl⟩
  case reported =>
    subst carried
    rw [Answer.settle, if_pos rfl]
    have set := climateSet_stands s withSettings (temperatureTaken default) (max 1 (min 50 climateStep))
    generalize s.climateSet withSettings (temperatureTaken default) (max 1 (min 50 climateStep)) = u at set ⊢
    obtain ⟨mail, used, records⟩ := set
    obtain ⟨_, step, reported⟩ := takeReport_settings u (temperatureTaken report)
    rw [setLine_reported, setLine_climateStep, setLine_used, setLine_crosspoints, setLine_queue, setLine_overflow, step]
    refine ⟨reported, fun small => ?_, fun shift => ?_⟩
    · rw [← used] at small
      rw [takeReport_small u small]
      exact ⟨used, records, mail.queue, mail.overflow⟩
    · rw [← used] at shift
      obtain ⟨inUse, handed, raised⟩ := takeReport_shifts u shift
      refine ⟨inUse, fun y => ?_, ?_⟩
      · have before : u.crosspoint y = s.crosspoint y := by simp only [State.crosspoint, records]
        rw [setLine_crosspoint, ← before]
        exact ⟨(handed y).1, setLine_retimed (handed y).2 ..⟩
      · refine (((mail.then_raises raised).then_same (setLine_sameNotices ..)).of_eq ?_).notified
        rw [clampedNotices_congr (fun _ => rfl) fun y => ((setLine_keepsTiming _ _ _).stands y).sum]

end Sys2Proof.Proofs
end

section
/-! SUPPORT. R165, R168 to R174, Tables 10-4 to 10-11: the codes, the records and the lists of records of a reply, where
they stand in its data. -/

namespace Sys2Proof.Machine

open Sys2Proof.Safety

/-! ### Codes (Tables 10-4 and 10-11) -/

theorem gateStateByte_eq (g : GateState) : gateStateByte g = byteOf (gateCode g) := by cases g <;> rfl

theorem pauseModeByte_eq (m : PauseMode) : pauseModeByte m = byteOf (pauseModeCode m) := by cases m <;> rfl

theorem expiryActionByte_eq (x : ExpiryAction) : expiryActionByte x = byteOf (expiryActionCode x) := by cases x <;> rfl

theorem protectionByte_eq (x : Protection) : protectionByte x = byteOf (protectionCode x) := by cases x <;> rfl

theorem slotByte_eq (k : Option (Fin 64)) : slotByte k = byteOf (slotCode k) := by cases k <;> rfl

theorem slotStateByte_eq (x : Slot) : slotStateByte x = byteOf (slotStateCode x) := by cases x <;> rfl

theorem storedStateByte_eq {α : Type} (x : Stored α) : storedStateByte x = byteOf (recordStateCode x) := by
  cases x <;> rfl

theorem acceptedByte_eq (x : Option Bool) : acceptedByte x = byteOf (levelCode x) := by
  cases x with
  | none => rfl
  | some b => cases b <;> rfl

theorem directionByte_eq (x : Direction) : directionByte x = byteOf (directionCode x) := by cases x <;> rfl

theorem zoneSourceByte_eq (x : ZoneSource) : zoneSourceByte x = byteOf (sourceCode x) := by cases x <;> rfl

/-! ### Stamps and labels (R159, R165) -/

variable {data : List Byte} {o : Nat}

theorem word32_eq (v : Int) : word32 v = word16 v ++ word16 (v / 65536) := by
  have value : (BitVec.ofInt 32 v).toNat = (v % 4294967296).toNat := by rw [BitVec.toNat_ofInt]; rfl
  have low : (BitVec.ofInt 16 v).toNat = (v % 65536).toNat := by rw [BitVec.toNat_ofInt]; rfl
  have high : (BitVec.ofInt 16 (v / 65536)).toNat = (v / 65536 % 65536).toNat := by rw [BitVec.toNat_ofInt]; rfl
  simp only [word32, word16, List.cons_append, List.nil_append, List.cons.injEq, and_true]
  refine ⟨?_, ?_, ?_, ?_⟩ <;> apply BitVec.eq_of_toNat_eq <;>
    simp only [BitVec.extractLsb'_toNat, Nat.shiftRight_eq_div_pow, value, low, high] <;> omega

theorem stampIs_of_holds {stamp : Stamp} (h : Holds data o (word32 stamp.toNat)) : StampIs data o stamp := by
  rw [word32_eq, holds_append] at h
  obtain ⟨low, high⟩ := h
  have low : (wordNumber data o : Int) = (stamp.toNat : Int) % 65536 := wordIs_of_holds low
  have high : (wordNumber data (o + 2) : Int) = ((stamp.toNat : Int) / 65536) % 65536 := wordIs_of_holds high
  have bound := stamp.isLt
  rw [StampIs]
  omega

theorem labelIs_of_holds {label : List Byte} (h : Holds data o (labelBytes label)) : LabelIs data o label := by
  obtain ⟨count, characters⟩ := holds_append.1 h
  exact ⟨byteIs_of_holds count, List.prefix_iff_eq_take.1 characters ▸ by simp⟩

/-! ### Lists of records -/

/-- A record of a list stands after the ones before it. -/
theorem holds_flatMap {α : Type} {f : α → List Byte} {x : α} : ∀ {xs : List α} {o j : Nat},
    Holds data o (xs.flatMap f) → xs[j]? = some x →
      Holds data (o + ((xs.take j).map fun y => (f y).length).sum) (f x)
  | [], _, _, _, found => nomatch found
  | y :: ys, o, j, h, found => by
    rw [List.flatMap_cons, holds_append] at h
    obtain ⟨first, rest⟩ := h
    cases j with
    | zero =>
      obtain rfl : y = x := by simpa using found
      exact first
    | succ j =>
      have later := holds_flatMap rest (by simpa using found)
      rwa [List.take_succ_cons, List.map_cons, List.sum_cons, ← Nat.add_assoc]

theorem holds_flatMap_of_size {α : Type} {f : α → List Byte} {x : α} {xs : List α} {size j : Nat}
    (same : ∀ y, (f y).length = size) (h : Holds data o (xs.flatMap f)) (found : xs[j]? = some x) :
    Holds data (o + size * j) (f x) := by
  have here := holds_flatMap h found
  have within : j ≤ xs.length := (List.getElem?_eq_some_iff.1 found).1.le
  simpa [same, Nat.min_eq_left within, Nat.mul_comm] using here

theorem length_flatMap_of_size {α : Type} {f : α → List Byte} {size : Nat} (same : ∀ y, (f y).length = size)
    (xs : List α) : (xs.flatMap f).length = size * xs.length := by
  simp [List.length_flatMap, same, Nat.mul_comm]

/-! ### Records -/

@[simp] theorem length_inputSettingsBytes (x : InputSettings) : x.bytes.length = 13 := by
  simp [InputSettings.bytes, modeByte_eq, indexByte_eq, areaByte_eq]

@[simp] theorem length_zoneSceneBytes (x : ZoneScene) : x.bytes.length = 9 := by
  simp [ZoneScene.bytes, areaByte_eq]

@[simp] theorem length_zoneGeometryBytes (x : ZoneGeometry) : x.bytes.length = 19 + x.label.length := by
  simp [ZoneGeometry.bytes]; omega

@[simp] theorem length_areaSettingsBytes (x : AreaSettings) : x.bytes.length = 7 := by
  simp [AreaSettings.bytes, pauseModeByte_eq]

@[simp] theorem length_panelSettingsBytes (x : PanelScene) (y : PanelBuilding) :
    (panelSettingsBytes x y).length = 7 := by
  simp [panelSettingsBytes, indexByte_eq]

theorem length_levelsBytes (x : AlarmSettings) : (x.levels.rows.flatMap word16).length = 32 := by
  rw [length_flatMap_of_size length_word16, Table.length_rows]

@[simp] theorem length_alarmSettingsBytes (x : AlarmSettings) : x.bytes.length = 36 := by
  simp [AlarmSettings.bytes, expiryActionByte_eq, slotByte_eq]

@[simp] theorem length_crosspointBytes (p : Crosspoint) (index : Fin 384) : (p.bytes index).length = 21 := by
  simp [Crosspoint.bytes]

@[simp] theorem length_entryBytes (s : State) (e : Entry) : (s.entryBytes e).length = 13 := by
  simp [State.entryBytes]

@[simp] theorem length_slotBytes (s : State) (k : Fin 64) : (s.slotBytes k).length = 4 + (s.slot k).label.length := by
  simp [State.slotBytes, slotStateByte_eq]; omega

@[simp] theorem length_noticeBytes (n : Notice) : n.bytes.length = 11 := by simp [Notice.bytes]

theorem inputRecordAt_of_holds {x : InputSettings} (h : Holds data o x.bytes) : InputRecordAt data o x := by
  simp only [InputSettings.bytes, holds_append, List.length_append, modeByte_eq, indexByte_eq, areaByte_eq, flagByte_eq,
    length_byteOf, length_word16, Nat.reduceAdd] at h
  obtain ⟨⟨⟨⟨⟨⟨⟨⟨⟨⟨mode, trim⟩, station⟩, area⟩, priority⟩, offset⟩, debounce⟩, hold⟩, attack⟩, release⟩, last⟩ := h
  exact ⟨byteIs_of_holds mode, wordIs_of_holds trim, byteIs_of_holds station, byteIs_of_holds area,
    byteIs_of_holds priority, wordIs_of_holds offset, byteIs_of_holds debounce, byteIs_of_holds hold,
    byteIs_of_holds attack, byteIs_of_holds release, byteIs_of_holds last⟩

theorem zoneSceneRecordAt_of_holds {x : ZoneScene} (h : Holds data o x.bytes) : ZoneSceneRecordAt data o x := by
  simp only [ZoneScene.bytes, holds_append, List.length_append, areaByte_eq, length_byteOf, length_word16,
    Nat.reduceAdd] at h
  obtain ⟨⟨⟨⟨area, level⟩, trimDefault⟩, trimMin⟩, trimMax⟩ := h
  exact ⟨byteIs_of_holds area, wordIs_of_holds level, wordIs_of_holds trimDefault, wordIs_of_holds trimMin,
    wordIs_of_holds trimMax⟩

theorem pointAt_of_holds {p : Point} (h : Holds data o p.bytes) : PointAt data o p := by
  simp only [Point.bytes, holds_append, List.length_append, length_word16, Nat.reduceAdd] at h
  obtain ⟨⟨x, y⟩, z⟩ := h
  exact ⟨wordIs_of_holds x, wordIs_of_holds y, wordIs_of_holds z⟩

theorem geometryRecordAt_of_holds {x : ZoneGeometry} (h : Holds data o x.bytes) : GeometryRecordAt data o x := by
  simp only [ZoneGeometry.bytes, holds_append, List.length_append, length_pointBytes, length_byteOf, length_word16,
    Nat.reduceAdd] at h
  obtain ⟨⟨⟨⟨⟨⟨speaker, listener⟩, precedence⟩, extra⟩, move⟩, slew⟩, label⟩ := h
  exact ⟨pointAt_of_holds speaker, pointAt_of_holds listener, wordIs_of_holds precedence, wordIs_of_holds extra,
    byteIs_of_holds move, byteIs_of_holds slew, labelIs_of_holds label⟩

theorem areaRecordAt_of_holds {x : AreaSettings} (h : Holds data o x.bytes) : AreaRecordAt data o x := by
  simp only [AreaSettings.bytes, holds_append, List.length_append, flagByte_eq, pauseModeByte_eq, length_byteOf,
    length_word16, Nat.reduceAdd] at h
  obtain ⟨⟨⟨⟨maxOpen, lastMic⟩, depth⟩, margin⟩, pause⟩ := h
  exact ⟨byteIs_of_holds maxOpen, byteIs_of_holds lastMic, wordIs_of_holds depth, wordIs_of_holds margin,
    byteIs_of_holds pause⟩

theorem panelRecordAt_of_holds {x : PanelScene} {y : PanelBuilding} (h : Holds data o (panelSettingsBytes x y)) :
    PanelRecordAt data o x y := by
  simp only [panelSettingsBytes, holds_append, List.length_append, flagByte_eq, indexByte_eq, length_byteOf,
    Nat.reduceAdd] at h
  obtain ⟨⟨⟨⟨⟨zone, enabled⟩, edges⟩, step⟩, count⟩, threshold⟩ := h
  exact ⟨byteIs_of_holds zone, byteIs_of_holds enabled, byteIs_of_holds edges, byteIs_of_holds step,
    byteIs_of_holds count, wordIs_of_holds threshold⟩

theorem alarmRecordAt_of_holds {x : AlarmSettings} (h : Holds data o x.bytes) : AlarmRecordAt data o x := by
  simp only [AlarmSettings.bytes, holds_append, List.length_append, flagByte_eq, expiryActionByte_eq, slotByte_eq,
    length_byteOf, length_levelsBytes, Nat.reduceAdd] at h
  obtain ⟨⟨⟨⟨levels, code⟩, action⟩, fallback⟩, autoArm⟩ := h
  refine ⟨fun z => wordIs_of_holds (holds_flatMap_of_size length_word16 levels ?_), byteIs_of_holds code,
    byteIs_of_holds action, byteIs_of_holds fallback, byteIs_of_holds autoArm⟩
  exact List.getElem?_eq_getElem ..

/-- Table 10-6: the flags of a crosspoint, bit by bit. -/
theorem flagBits (live moves waits clamped : Bool) :
    ((if live then 1 else 0) + (if moves then 2 else 0) + (if waits then 4 else 0) + (if clamped then 8 else 0) : Int)
      = (live.toNat + 2 * moves.toNat + 4 * waits.toNat + 8 * clamped.toNat : Nat) := by
  cases live <;> cases moves <;> cases waits <;> cases clamped <;> rfl

theorem crosspointRecordAt_of_holds {p : Crosspoint} {index : Fin 384} (h : Holds data o (p.bytes index)) :
    CrosspointRecordAt data o index.val p := by
  simp only [Crosspoint.bytes, holds_append, List.length_append, length_byteOf, length_word16, Nat.reduceAdd] at h
  obtain ⟨⟨⟨⟨⟨⟨⟨⟨⟨⟨number, flags⟩, send⟩, targetGain⟩, activeGain⟩, targetDelay⟩, activeDelay⟩, dest⟩, elapsed⟩,
    length⟩, pending⟩ := h
  refine ⟨wordIs_of_holds number, ?_, wordIs_of_holds send, wordIs_of_holds targetGain, wordIs_of_holds activeGain,
    wordIs_of_holds targetDelay, wordIs_of_holds activeDelay, fun steady => ?_, fun m moving => ?_, fun none => ?_,
    fun q waits => ?_⟩
  · rw [← flagBits]
    exact byteIs_of_holds flags
  · simp only [steady] at dest elapsed length
    exact ⟨wordIs_of_holds dest, wordIs_of_holds elapsed, wordIs_of_holds length⟩
  · simp only [moving] at dest elapsed length
    exact ⟨wordIs_of_holds dest, wordIs_of_holds elapsed, wordIs_of_holds length⟩
  · simp only [none] at pending
    exact wordIs_of_holds pending
  · simp only [waits] at pending
    exact wordIs_of_holds pending

theorem entryRecordAt_of_holds {s : State} {e : Entry} (h : Holds data o (s.entryBytes e)) :
    EntryRecordAt data o e (s.input e.input) := by
  simp only [State.entryBytes, holds_append, List.length_append, length_byteOf, length_word16, length_word32,
    Nat.reduceAdd] at h
  obtain ⟨⟨⟨⟨⟨⟨input, priority⟩, state⟩, stamp⟩, hold⟩, opening⟩, level⟩ := h
  refine ⟨byteIs_of_holds input, byteIs_of_holds priority, ?_, stampIs_of_holds stamp, wordIs_of_holds hold,
    wordIs_of_holds opening, wordIs_of_holds level⟩
  have bits : ((if s.holds e then 1 else 0) + (if e.retained then 2 else 0) : Int)
      = ((if (s.input e.input).gate = .holding then 1 else 0) + 2 * e.retained.toNat : Nat) := by
    simp only [State.holds, beq_iff_eq]
    split <;> cases e.retained <;> rfl
  rw [← bits]
  exact byteIs_of_holds state

theorem slotProtected_iff (level : Protection) (k : Fin 64) :
    slotProtected level k = true ↔ InProtectedRange level (.scer k) := by
  cases level <;> simp [slotProtected, InProtectedRange]

theorem slotRecordAt_of_holds {s : State} {k : Fin 64} (h : Holds data o (s.slotBytes k)) :
    SlotRecordAt data o s.guard.level k (s.slot k) := by
  simp only [State.slotBytes, holds_append, List.length_append, slotStateByte_eq, length_byteOf, length_flagByte,
    Nat.reduceAdd] at h
  obtain ⟨⟨⟨number, state⟩, protected_⟩, label⟩ := h
  rw [flagByte_eq] at protected_
  refine ⟨byteIs_of_holds number, byteIs_of_holds state, fun inside => ?_, fun outside => ?_, fun scene valid => ?_,
    fun invalid => ?_⟩
  · rw [(slotProtected_iff ..).2 inside] at protected_
    exact byteIs_of_holds protected_
  · rw [Bool.eq_false_iff.2 fun inside => outside ((slotProtected_iff ..).1 inside)] at protected_
    exact byteIs_of_holds protected_
  · rw [valid] at label
    exact labelIs_of_holds label
  · have empty : (s.slot k).label = [] := by
      cases content : s.slot k with
      | valid scene => exact absurd content (invalid scene)
      | empty => rfl
      | incomplete => rfl
    rw [empty] at label
    exact labelIs_of_holds label

end Sys2Proof.Machine
end

section
/-! PROOFS. O7: what the reading requests report, and what they leave. -/

namespace Sys2Proof.Machine

open Sys2Proof.Safety

variable {s : State}

/-! ### The requests (R155 to R157) -/

/-- A request that is settled in a state leaves that state with its line's reply pending. -/
theorem replied_of_settled {outcome : Host.Outcome State Fault Refusal} {u : State} {result : Result}
    {data : List Byte} {kind tag : Byte}
    (e : outcome = .next (Answer.settle ⟨u, result, data⟩ .control kind tag)) :
    ∃ t, outcome = .next t ∧ t = { u with control := t.control } ∧ Replied t .control kind tag result data :=
  ⟨_, e, rfl, settle_replied ..⟩

theorem answerStget_sent (s : State) (n : Fin 32) :
    s.answerStget (byteOf (n.val + 1)) = ⟨s, .done, s.stgetData n⟩ := by
  rw [State.answerStget, oneBased_of_holds (holds_self _) (by decide)]
  rfl

theorem answerZnget_sent (s : State) (z : Fin 16) :
    s.answerZnget (byteOf (z.val + 1)) = ⟨s, .done, s.zngetData z⟩ := by
  rw [State.answerZnget, oneBased_of_holds (holds_self _) (by decide)]
  rfl

theorem answerInget_sent (s : State) (i : Fin 24) :
    s.answerInget (byteOf (i.val + 1)) = ⟨s.setInput i { s.input i with reversals := 0 }, .done, s.ingetData i⟩ := by
  rw [State.answerInget, oneBased_of_holds (holds_self _) (by decide)]
  rfl

theorem answerPnget_sent (s : State) (n : Fin 8) :
    s.answerPnget (byteOf (n.val + 1))
      = ⟨s.setPanel n { s.panel n with fault := false, illegal := 0, atLimit := false }, .done, s.pngetData n⟩ := by
  rw [State.answerPnget, oneBased_of_holds (holds_self _) (by decide)]
  rfl

theorem answerOlrd_sent (s : State) (k : Area) :
    s.answerOlrd (areaByte (some k)) = ⟨s, .done, s.olrdData k⟩ := by
  rw [State.answerOlrd, area_of_holds (holds_self _)]
  cases k <;> rfl

/-- R92, R134: a count is taken at the nearer limit, with CLAMPED where that changes it. -/
theorem limitNat_one {high : Nat} (h : 1 ≤ high) (count : Nat) :
    limitNat 1 high count = max 1 (min high count)
      ∧ doneOrClamped (decide (limitNat 1 high count ≠ count)) = doneUnless (count < 1 ∨ high < count) := by
  refine ⟨limitNat_eq h count, ?_⟩
  rw [doneOrClamped_decide]
  have same : limitNat 1 high count ≠ count ↔ count < 1 ∨ high < count := by rw [limitNat_eq h]; omega
  simp only [doneUnless, same]

theorem answerXprd_of_holds {body : List Byte} {x : Fin 384} {count : Nat} (ends : body.length = 3)
    (index : Holds body 0 (word16 x.val)) (number : Holds body 2 (byteOf count)) (fits : count ≤ 255) :
    s.answerXprd body = ⟨s, doneUnless (count < 1 ∨ 24 < count), s.xprdData x (max 1 (min 24 count))⟩ := by
  rw [State.answerXprd, show lengthIs body 3 = true from decide_eq_true ends, nat16At_of_holds index (by omega),
    natAt_of_holds number fits, crosspointIndex?, dif_pos x.isLt]
  dsimp only [fitting_true, withTarget_some]
  rw [(limitNat_one (by decide) count).1, ← (limitNat_one (by decide) count).2, (limitNat_one (by decide) count).1]

theorem answerScls_of_holds {body : List Byte} {k : Fin 64} {count : Nat} (ends : body.length = 2)
    (start : Holds body 0 (byteOf k.val)) (number : Holds body 1 (byteOf count)) (fits : count ≤ 255) :
    s.answerScls body = ⟨s, doneUnless (count < 1 ∨ 16 < count), s.sclsData k (max 1 (min 16 count))⟩ := by
  rw [State.answerScls, show lengthIs body 2 = true from decide_eq_true ends, slot_of_holds start,
    natAt_of_holds number fits]
  dsimp only [fitting_true, withTarget_some]
  rw [(limitNat_one (by decide) count).1, ← (limitNat_one (by decide) count).2, (limitNat_one (by decide) count).1]

/-! ### The lengths of the data (Table 10-10) -/

theorem length_statData (s : State) : s.statData.length = 14 := by simp [State.statData]

theorem length_alrdData (s : State) : s.alrdData.length = 44 := by
  cases taken : s.alarm.actionTaken <;> simp [State.alrdData, storedStateByte_eq, taken]

theorem length_rampByte (x : Input) : x.rampByte.length = 1 := by
  unfold Input.rampByte
  split_ifs <;> rfl

theorem length_ingetData (s : State) (i : Fin 24) : (s.ingetData i).length = 31 := by
  simp [State.ingetData, areaByte_eq, gateStateByte_eq, length_rampByte]

theorem length_pngetData (s : State) (n : Fin 8) : (s.pngetData n).length = 18 := by
  simp [State.pngetData, acceptedByte_eq, directionByte_eq]

theorem length_zngetData (s : State) (z : Fin 16) :
    (s.zngetData z).length = 36 + (s.zone z).geometry.label.length := by
  simp [State.zngetData, areaByte_eq, zoneSourceByte_eq]; omega

theorem length_assignedBytes (s : State) (n : Fin 32) :
    ((s.assigned n).flatMap fun i => byteOf (i.val + 1)).length = (s.assigned n).length := by
  rw [length_flatMap_of_size (size := 1) (fun _ => rfl), one_mul]

theorem length_stgetData (s : State) (n : Fin 32) :
    (s.stgetData n).length = 11 + (s.assigned n).length + (s.station n).label.length := by
  simp only [State.stgetData, List.length_append, length_assignedBytes, length_flagByte, length_pointBytes,
    length_word16, length_byteOf, length_labelBytes]
  omega

theorem length_xprdData (s : State) (x : Fin 384) (count : Nat) : (s.xprdData x count).length = 1 + 21 * count := by
  rw [State.xprdData, List.length_append, length_flatMap_of_size (size := 21) (fun _ => length_crosspointBytes ..)]
  simp [readIndexes]

theorem length_olrdData (s : State) (k : Area) :
    (s.olrdData k).length = 14 + 13 * (s.reportedEntries k).length := by
  simp only [State.olrdData, List.length_append, length_flatMap_of_size (length_entryBytes s), areaByte_eq,
    pauseModeByte_eq, length_areaSettingsBytes, length_byteOf, length_flagByte, length_word16]

theorem length_sclsData (s : State) (k : Fin 64) (count : Nat) :
    (s.sclsData k count).length = 7 + ((listedSlots k count).map fun j => 4 + (s.slot j).label.length).sum := by
  simp [State.sclsData, storedStateByte_eq, protectionByte_eq, slotByte_eq, List.length_flatMap]; omega

theorem length_fetchNoticesData (s : State) :
    s.fetchNotices.data.length = 3 + 11 * (s.queue.take 8).length := by
  simp only [State.fetchNotices, List.length_append, length_flatMap_of_size length_noticeBytes, length_byteOf,
    length_flagByte]

/-! ### The fields of the data (Table 10-10) -/

section
variable {d : List Byte}

/-- R163: STAT. -/
theorem statData_fields (h : d = s.statData) :
    ByteIs d 0 Config.firmwareMajor.toNat ∧ ByteIs d 1 Config.firmwareMinor.toNat ∧ StampIs d 2 s.stamp
      ∧ WordIs d 6 s.used ∧ ByteIs d 8 s.reported.isSome.toNat
      ∧ (s.reported = none → WordIs d 9 0) ∧ (∀ tr, s.reported = some tr → WordIs d 9 tr)
      ∧ (s.operation = none → ByteIs d 11 0 ∧ ByteIs d 12 0)
      ∧ (∀ op, s.operation = some op → ByteIs d 11 (operationCode op) ∧ ByteIs d 12 (operationTarget op))
      ∧ ByteIs d 13 s.queue.length := by
  have held : Holds d 0 s.statData := h ▸ holds_self _
  simp only [State.statData, holds_append, List.length_append, List.length_cons, List.length_nil, length_word32,
    length_word16, length_byteOf, flagByte_eq, Nat.reduceAdd] at held
  obtain ⟨⟨⟨⟨⟨⟨⟨firmware, stamp⟩, used⟩, isReported⟩, reported⟩, kind⟩, target⟩, waiting⟩ := held
  have revision (b : Byte) : byteOf b.toNat = [b] := by simp [byteOf]
  have firmware : Holds d 0 (byteOf Config.firmwareMajor.toNat ++ byteOf Config.firmwareMinor.toNat) := by
    rw [revision, revision]; exact firmware
  obtain ⟨major, minor⟩ := holds_append.1 firmware
  refine ⟨byteIs_of_holds major, byteIs_of_holds minor, stampIs_of_holds stamp, wordIs_of_holds used,
    byteIs_of_holds isReported, fun none => ?_, fun tr some => ?_, fun none => ?_, fun op some => ?_,
    byteIs_of_holds waiting⟩
  · simp only [none, Option.getD_none] at reported; exact wordIs_of_holds reported
  · simp only [some, Option.getD_some] at reported; exact wordIs_of_holds reported
  · simp only [none] at kind target; exact ⟨byteIs_of_holds kind, byteIs_of_holds target⟩
  · simp only [some] at kind target; exact ⟨byteIs_of_holds kind, byteIs_of_holds target⟩

/-- R6: STGET. -/
theorem stgetData_fields {n : Fin 32} (h : d = s.stgetData n) :
    ByteIs d 0 (s.station n).defined.toNat ∧ PointAt d 1 (s.station n).point ∧ WordIs d 7 (s.clampedCount n)
      ∧ ByteIs d 9 (s.assigned n).length
      ∧ (∀ j i, (s.assigned n)[j]? = some i → ByteIs d (10 + j) (i.val + 1))
      ∧ LabelIs d (10 + (s.assigned n).length) (s.station n).label := by
  have held : Holds d 0 (s.stgetData n) := h ▸ holds_self _
  simp only [State.stgetData, holds_append, List.length_append, length_assignedBytes, length_pointBytes,
    length_word16, length_byteOf, flagByte_eq, Nat.reduceAdd] at held
  obtain ⟨⟨⟨⟨⟨defined, point⟩, clamped⟩, number⟩, inputs⟩, label⟩ := held
  refine ⟨byteIs_of_holds defined, pointAt_of_holds point, wordIs_of_holds clamped, byteIs_of_holds number,
    fun j i found => ?_, labelIs_of_holds (o := 10 + (s.assigned n).length) (by rwa [Nat.zero_add] at label)⟩
  have here := holds_flatMap_of_size (size := 1) (fun _ => rfl) inputs found
  rw [Nat.one_mul] at here
  exact byteIs_of_holds here

/-- R75: ZNGET, with the zone output as log 27 reads it. -/
theorem zngetData_fields {z : Fin 16} (h : d = s.zngetData z) :
    ZoneSceneRecordAt d 0 (s.zone z).scene ∧ WordIs d 9 (s.zone z).trim ∧ ByteIs d 11 (areaCode (s.zoneArea z))
      ∧ ByteIs d 12 (s.countInZone z fun p => p.live) ∧ ByteIs d 13 (s.countInZone z fun p => p.move.isSome)
      ∧ ByteIs d 14 (s.countInZone z fun p => p.pendingDelay.isSome) ∧ ByteIs d 15 (s.countInZone z fun p => p.clamp)
      ∧ ByteIs d 16 (sourceCode (s.zone z).selector) ∧ GeometryRecordAt d 17 (s.zone z).geometry := by
  have held : Holds d 0 (s.zngetData z) := h ▸ holds_self _
  simp only [State.zngetData, holds_append, List.length_append, length_zoneSceneBytes, length_word16, length_byteOf,
    areaByte_eq, zoneSourceByte_eq, Nat.reduceAdd] at held
  obtain ⟨⟨⟨⟨⟨⟨⟨⟨scene, trim⟩, area⟩, live⟩, moving⟩, pending⟩, clamped⟩, source⟩, geometry⟩ := held
  exact ⟨zoneSceneRecordAt_of_holds scene, wordIs_of_holds trim, byteIs_of_holds area, byteIs_of_holds live,
    byteIs_of_holds moving, byteIs_of_holds pending, byteIs_of_holds clamped, byteIs_of_holds source,
    geometryRecordAt_of_holds geometry⟩

/-- R92, R171: XPRD. -/
theorem xprdData_fields {x : Fin 384} {count : Nat} (h : d = s.xprdData x count) :
    ByteIs d 0 count ∧ ∀ (j : Nat) (y : Fin 384), j < count → y.val = (x.val + j) % 384 →
      CrosspointRecordAt d (1 + 21 * j) y.val (s.crosspoint y) := by
  have held : Holds d 0 (s.xprdData x count) := h ▸ holds_self _
  obtain ⟨number, records⟩ := holds_append.1 held
  refine ⟨byteIs_of_holds number, fun j y within index => ?_⟩
  have found : (readIndexes x count)[j]? = some y := by
    simp [readIndexes, List.getElem?_range within, Fin.ext_iff, index]
  exact crosspointRecordAt_of_holds
    (holds_flatMap_of_size (f := fun x => (s.crosspoint x).bytes x) (fun _ => length_crosspointBytes ..) records found)

/-- R63: OLRD. -/
theorem olrdData_fields {k : Area} (h : d = s.olrdData k) :
    AreaRecordAt d 0 (s.area k).settings ∧ ByteIs d 7 (areaCode (some (s.leadOf k)))
      ∧ ByteIs d 8 (s.area k).paused.toNat ∧ ByteIs d 9 (s.area (s.leadOf k)).paused.toNat
      ∧ ByteIs d 10 (pauseModeCode (s.area (s.leadOf k)).settings.pauseMode)
      ∧ ByteIs d 11 (s.reportedEntries k).length ∧ WordIs d 12 (if s.inUse k then (s.area k).nom else 0 : Nat)
      ∧ ∀ j e, (s.reportedEntries k)[j]? = some e → EntryRecordAt d (14 + 13 * j) e (s.input e.input) := by
  have held : Holds d 0 (s.olrdData k) := h ▸ holds_self _
  simp only [State.olrdData, holds_append, List.length_append, length_areaSettingsBytes, length_word16, length_byteOf,
    areaByte_eq, flagByte_eq, pauseModeByte_eq, Nat.reduceAdd] at held
  obtain ⟨⟨⟨⟨⟨⟨⟨settings, lead⟩, paused⟩, governing⟩, mode⟩, number⟩, nom⟩, entries⟩ := held
  exact ⟨areaRecordAt_of_holds settings, byteIs_of_holds lead, byteIs_of_holds paused, byteIs_of_holds governing,
    byteIs_of_holds mode, byteIs_of_holds number, wordIs_of_holds nom,
    fun j e found => entryRecordAt_of_holds (holds_flatMap_of_size (length_entryBytes s) entries found)⟩

theorem take_listedSlots {k : Fin 64} {j count : Nat} (h : j ≤ count) :
    (listedSlots k count).take j = listedSlots k j := by
  rw [listedSlots, ← List.map_take, List.take_range, Nat.min_eq_left h]
  rfl

/-- R134: SCLS. -/
theorem sclsData_fields {k : Fin 64} {count : Nat} (h : d = s.sclsData k count) :
    ByteIs d 0 count ∧ ByteIs d 1 (recordStateCode s.store.building) ∧ ByteIs d 2 (recordStateCode s.store.alarm)
      ∧ ByteIs d 3 (recordStateCode s.store.guard) ∧ ByteIs d 4 (protectionCode s.guard.level)
      ∧ ByteIs d 5 s.guard.lock.toNat ∧ ByteIs d 6 (slotCode s.store.startupScene)
      ∧ ∀ (j : Nat) (y : Fin 64), j < count → y.val = (k.val + j) % 64 →
          SlotRecordAt d (7 + ((listedSlots k j).map fun i => 4 + (s.slot i).label.length).sum) s.guard.level y
            (s.slot y) := by
  have held : Holds d 0 (s.sclsData k count) := h ▸ holds_self _
  simp only [State.sclsData, holds_append, List.length_append, length_byteOf, storedStateByte_eq, protectionByte_eq,
    slotByte_eq, flagByte_eq, Nat.reduceAdd] at held
  obtain ⟨⟨⟨⟨⟨⟨⟨number, building⟩, alarm⟩, guard⟩, level⟩, lock⟩, startup⟩, slots⟩ := held
  refine ⟨byteIs_of_holds number, byteIs_of_holds building, byteIs_of_holds alarm, byteIs_of_holds guard,
    byteIs_of_holds level, byteIs_of_holds lock, byteIs_of_holds startup, fun j y within index => ?_⟩
  have found : (listedSlots k count)[j]? = some y := by
    simp [listedSlots, List.getElem?_range within, Fin.ext_iff, index]
  have here := holds_flatMap slots found
  rw [take_listedSlots within.le] at here
  simp only [length_slotBytes] at here
  exact slotRecordAt_of_holds here

/-- R138: ALRD. -/
theorem alrdData_fields (h : d = s.alrdData) :
    AlarmRecordAt d 0 s.alarm.settings ∧ ByteIs d 36 (recordStateCode s.store.alarm)
      ∧ ByteIs d 37 (alarmStateCode s.alarm.state) ∧ ByteIs d 38 (overrideCode s.alarm.cause)
      ∧ (s.alarm.timer = none → ByteIs d 39 0 ∧ WordIs d 40 0)
      ∧ (∀ left phase, s.alarm.timer = some ⟨left, phase⟩ → ByteIs d 39 phase ∧ WordIs d 40 left)
      ∧ (s.alarm.faultCause = none → ByteIs d 42 0)
      ∧ (∀ c, s.alarm.faultCause = some c → ByteIs d 42 (faultCauseCode c))
      ∧ (s.alarm.actionTaken = none → ByteIs d 43 255)
      ∧ ∀ c, s.alarm.actionTaken = some c → ByteIs d 43 (actionCode c) := by
  have held : Holds d 0 s.alrdData := h ▸ holds_self _
  simp only [State.alrdData, holds_append, List.length_append, length_alarmSettingsBytes, length_word16, length_byteOf,
    storedStateByte_eq, Nat.reduceAdd] at held
  obtain ⟨⟨⟨⟨⟨⟨⟨settings, record⟩, state⟩, cause⟩, phase⟩, left⟩, fault⟩, action⟩ := held
  refine ⟨alarmRecordAt_of_holds settings, byteIs_of_holds record, byteIs_of_holds state, byteIs_of_holds cause,
    fun stopped => ?_, fun remaining expected runs => ?_, fun none => ?_, fun c some => ?_, fun none => ?_,
    fun c some => ?_⟩
  · simp only [stopped] at phase left; exact ⟨byteIs_of_holds phase, wordIs_of_holds left⟩
  · simp only [runs] at phase left; exact ⟨byteIs_of_holds phase, wordIs_of_holds left⟩
  · simp only [none] at fault; exact byteIs_of_holds fault
  · simp only [some] at fault; exact byteIs_of_holds fault
  · simp only [none] at action; exact byteIs_of_holds (v := 255) action
  · simp only [some] at action; exact byteIs_of_holds action

/-- R38: the ramp direction's code. -/
theorem rampByte_eq (x : Input) :
    x.rampByte = byteOf (if x.gain = x.target then 0 else if x.gain < x.target then 1 else 2) := by
  unfold Input.rampByte
  rcases lt_trichotomy x.gain x.target with up | same | down
  · rw [if_pos up, if_neg up.ne, if_pos up]; rfl
  · simp only [same, lt_self_iff_false, if_false, if_true]; rfl
  · rw [if_neg down.not_gt, if_pos down, if_neg down.ne', if_neg down.not_gt]; rfl

/-- R26: INGET. -/
theorem ingetData_fields {i : Fin 24} (h : d = s.ingetData i) {x : Input} (read : x = s.input i) :
    InputRecordAt d 0 x.settings ∧ ByteIs d 13 (areaCode (s.inputArea i)) ∧ WordIs d 14 x.level
      ∧ WordIs d 16 x.noiseFloor ∧ ByteIs d 18 x.rise ∧ WordIs d 19 (x.noiseFloor + x.settings.offset)
      ∧ WordIs d 21 (x.noiseFloor + x.settings.offset - 30) ∧ ByteIs d 23 (gateCode x.gate)
      ∧ ByteIs d 24 (if x.gate = .qualifying then x.qualifying else 0) ∧ WordIs d 25 x.gain
      ∧ WordIs d 27 x.target
      ∧ ByteIs d 29 (if x.gain = x.target then 0 else if x.gain < x.target then 1 else 2)
      ∧ ByteIs d 30 x.reversals := by
  subst read
  have held : Holds d 0 (s.ingetData i) := h ▸ holds_self _
  simp only [State.ingetData, holds_append, List.length_append, length_inputSettingsBytes, length_word16, length_byteOf,
    areaByte_eq, gateStateByte_eq, rampByte_eq, Nat.reduceAdd] at held
  obtain ⟨⟨⟨⟨⟨⟨⟨⟨⟨⟨⟨⟨settings, area⟩, level⟩, floor⟩, rise⟩, opens⟩, closes⟩, gate⟩, count⟩, gain⟩, target⟩, ramp⟩,
    reversals⟩ := held
  have counted := byteIs_of_holds count
  rw [Input.reportedCount, Nat.cast_ite] at counted
  exact ⟨inputRecordAt_of_holds settings, byteIs_of_holds area, wordIs_of_holds level, wordIs_of_holds floor,
    byteIs_of_holds rise, wordIs_of_holds opens, wordIs_of_holds closes, byteIs_of_holds gate, counted,
    wordIs_of_holds gain, wordIs_of_holds target, byteIs_of_holds ramp, byteIs_of_holds reversals⟩

/-- R116: PNGET. -/
theorem pngetData_fields {n : Fin 8} (h : d = s.pngetData n) {p : Panel} (read : p = s.panel n) :
    PanelRecordAt d 0 p.scene p.building ∧ ByteIs d 7 (levelCode p.lineA.accepted)
      ∧ ByteIs d 8 (levelCode p.lineB.accepted) ∧ ByteIs d 9 (levelCode p.lineZ.accepted)
      ∧ ByteIs d 10 p.accumulator ∧ ByteIs d 11 (directionCode p.direction) ∧ ByteIs d 12 p.fault.toNat
      ∧ ByteIs d 13 p.illegal ∧ ByteIs d 14 p.atLimit.toNat ∧ ByteIs d 15 p.scene.zone.isSome.toNat
      ∧ (p.scene.zone = none → WordIs d 16 0)
      ∧ ∀ z, p.scene.zone = some z → WordIs d 16 (s.zone z).trim := by
  subst read
  have held : Holds d 0 (s.pngetData n) := h ▸ holds_self _
  simp only [State.pngetData, holds_append, List.length_append, length_panelSettingsBytes, length_byteOf,
    acceptedByte_eq, directionByte_eq, flagByte_eq, Nat.reduceAdd] at held
  obtain ⟨⟨⟨⟨⟨⟨⟨⟨⟨⟨settings, lineA⟩, lineB⟩, lineZ⟩, accumulator⟩, direction⟩, fault⟩, illegal⟩, atLimit⟩, assigned⟩,
    trim⟩ := held
  refine ⟨panelRecordAt_of_holds settings, byteIs_of_holds lineA, byteIs_of_holds lineB, byteIs_of_holds lineZ,
    byteIs_of_holds accumulator, byteIs_of_holds direction, byteIs_of_holds fault, byteIs_of_holds illegal,
    byteIs_of_holds atLimit, byteIs_of_holds assigned, fun none => ?_, fun z some => ?_⟩
  · simp only [none] at trim; exact wordIs_of_holds trim
  · simp only [some] at trim; exact wordIs_of_holds trim

end

end Sys2Proof.Machine

namespace Sys2Proof.Proofs

open Sys2Proof Sys2Proof.Machine Sys2Proof.Safety

/-- Settles O7: the answers of the nine requests (`replied_of_settled`), the lengths of their data, and its fields, read
at their offsets (`holds_append`, `holds_flatMap`). -/
theorem readingRequestsReportTheState : Obligations.ReadingRequestsReportTheState := by
  refine ⟨fun s tag ready => ⟨?stat, fun n => ?stget, fun z => ?znget, fun x count fits => ?xprd, fun k => ?olrd,
    fun k count fits => ?scls, ?alrd, fun i => ?inget, fun n => ?pnget⟩, fun s => ?lengths, fun s => ?fields⟩
  case stat => exact replied_of_settled (exec_stat ready tag [])
  case stget => exact replied_of_settled ((exec_stget ready ..).trans (by rw [answerStget_sent]))
  case znget => exact replied_of_settled ((exec_znget ready ..).trans (by rw [answerZnget_sent]))
  case xprd =>
    obtain ⟨index, number⟩ := holds_append.1 (holds_self (word16 x.val ++ byteOf count))
    exact replied_of_settled ((exec_xprd ready ..).trans (by rw [answerXprd_of_holds rfl index number fits]))
  case olrd => exact replied_of_settled ((exec_olrd ready ..).trans (by rw [answerOlrd_sent]))
  case scls =>
    obtain ⟨start, number⟩ := holds_append.1 (holds_self (byteOf k.val ++ byteOf count))
    exact replied_of_settled ((exec_scls ready ..).trans (by rw [answerScls_of_holds rfl start number fits]))
  case alrd => exact replied_of_settled (exec_alrd ready tag [])
  case inget => exact replied_of_settled ((exec_inget ready ..).trans (by rw [answerInget_sent]))
  case pnget => exact replied_of_settled ((exec_pnget ready ..).trans (by rw [answerPnget_sent]))
  case lengths =>
    exact ⟨length_statData s, length_alrdData s, length_ingetData s, length_pngetData s, length_zngetData s,
      length_stgetData s, length_xprdData s, length_olrdData s, length_sclsData s, length_fetchNoticesData s⟩
  case fields =>
    refine ⟨fun d h => ?statFields, fun n d h assigned same => same ▸ stgetData_fields h,
      fun z d h count same => ?zngetFields, fun x count d h => xprdData_fields h,
      fun k d h lead entries hlead hentries => ?olrdFields, fun k count d h => ?sclsFields, fun d h => alrdData_fields h,
      fun i d h x read => ingetData_fields h read, fun n d h p read => pngetData_fields h read⟩
    case statFields =>
      obtain ⟨major, minor, stamp, used, isReported, none, reported, idle, inFlight, waiting⟩ := statData_fields h
      exact ⟨major, minor, stamp, used, isReported, none, reported, idle, fun _ _ => inFlight _, fun _ => inFlight _,
        fun _ => inFlight _, fun _ => inFlight _, fun _ => inFlight _, waiting⟩
    case zngetFields =>
      simp only [same]
      exact zngetData_fields h
    case olrdFields =>
      subst hlead hentries
      have fields := olrdData_fields h
      simp only [State.reportedEntries, State.inUse, Option.isNone_iff_eq_none, Nat.cast_ite,
        Nat.cast_zero] at fields
      exact fields
    case sclsFields =>
      obtain ⟨number, building, alarm, guard, level, lock, startup, slots⟩ := sclsData_fields h
      refine ⟨number, building, alarm, guard, level, lock, fun incomplete => ?_, fun b valid => ?_, slots⟩
      · rwa [Store.startupScene, incomplete] at startup
      · rwa [Store.startupScene, valid] at startup

end Sys2Proof.Proofs
end

section
/-! SUPPORT. R25, R34, R39, R58, R77: what the operations of an INSET leave of inputs, areas, crosspoint records and
notices. -/

namespace Sys2Proof.Machine

open Sys2Proof.Safety

/-! ### Inputs and areas that stand -/

section
variable {s t u : State}

theorem OnlyPlan.input (h : OnlyPlan s t) (i : Fin 24) : t.input i = s.input i := by
  obtain ⟨_, _, _, rfl⟩ := h; rfl

theorem OnlyPlan.area (h : OnlyPlan s t) (k : Area) : t.area k = s.area k := by
  obtain ⟨_, _, _, rfl⟩ := h; rfl

theorem OnlyPlan.zone (h : OnlyPlan s t) (z : Fin 16) : t.zone z = s.zone z := by
  obtain ⟨_, _, _, rfl⟩ := h; rfl

theorem OnlyLists.crosspoint (h : OnlyLists s t) (x : Fin 384) : t.crosspoint x = s.crosspoint x := by
  obtain ⟨_, _, _, _, rfl⟩ := h; rfl

/-- From `s` to `t` every area stands but for its list and its NOM attenuation. -/
structure AreasStand (s t : State) : Prop where
  area : ∀ k, t.area k = { s.area k with list := (t.area k).list, nom := (t.area k).nom }

theorem AreasStand.refl (s : State) : AreasStand s s := ⟨fun _ => rfl⟩

theorem AreasStand.trans (h : AreasStand s t) (k : AreasStand t u) : AreasStand s u :=
  ⟨fun l => by rw [k.area l, h.area l]⟩

theorem AreasStand.of_same (h : ∀ k, t.area k = s.area k) : AreasStand s t := ⟨fun k => by rw [h k]⟩

/-- From `s` to `t` a crosspoint's record stands but for its gain target. -/
def RecordStands (s t : State) (x : Fin 384) : Prop :=
  t.crosspoint x = { s.crosspoint x with targetGain := (t.crosspoint x).targetGain }

theorem RecordStands.of_same {x : Fin 384} (h : t.crosspoint x = s.crosspoint x) : RecordStands s t x := by
  rw [RecordStands, h]

theorem RecordStands.trans {x : Fin 384} (h : RecordStands s t x) (k : RecordStands t u x) : RecordStands s u x := by
  unfold RecordStands at *
  rw [k, h]

end

variable (s : State)

/-! ### The operations -/

theorem setArea_areasStand {k : Area} {v : AreaUnit} (h : v = { s.area k with list := v.list, nom := v.nom }) :
    AreasStand s (s.setArea k v) := by
  refine ⟨fun l => ?_⟩
  rw [setArea_area]
  split
  · next same => subst same; exact h
  · rfl

theorem recompose_recordStands (which : Fin 384 → Bool) (x : Fin 384) : RecordStands s (s.recompose which) x := by
  unfold RecordStands State.recompose
  rw [updateCrosspoints_crosspoint]
  split <;> rfl

/-- From `s` to `t` the NOM attenuations and the gain targets alone may differ. -/
structure NomRecomputed (s t : State) : Prop where
  input : ∀ i, t.input i = s.input i
  list : ∀ l, (t.area l).list = (s.area l).list
  areas : AreasStand s t
  record : ∀ x, RecordStands s t x
  notices : SameNotices s t

theorem NomRecomputed.refl (s : State) : NomRecomputed s s :=
  ⟨fun _ => rfl, fun _ => rfl, .refl s, fun _ => rfl, .refl s⟩

/-- R58, R77: the attenuation of an area recomputed. -/
theorem updateNom_nomRecomputed (k : Area) : NomRecomputed s (s.updateNom k) := by
  unfold State.updateNom
  split
  · exact .refl s
  · exact {
      input := fun i => (recompose_onlyPlan ..).input i
      list := fun l => by
        rw [(recompose_onlyPlan ..).area l, State.setNom, setArea_area]
        split
        · next same => rw [same]
        · rfl
      areas := (setArea_areasStand s rfl).trans (.of_same (recompose_onlyPlan ..).area)
      record := fun x => (RecordStands.of_same ((setNom_onlyLists s k).crosspoint x)).trans (recompose_recordStands ..)
      notices := ⟨rfl, rfl, rfl, rfl⟩ }

theorem closeGate_area (i : Fin 24) (k : Area) : (s.closeGate i).area k = s.area k := rfl

/-- R34: an entry's leaving takes the first entry of its input from the list. -/
theorem dropEntry_list (k : Area) (r : ListReason) (i : Fin 24) (l : Area) :
    ((s.dropEntry k r i).area l).list
      = if k = l then (s.area l).list.eraseP (fun e => e.input == i) else (s.area l).list := by
  rw [State.dropEntry, State.raiseListChange, raise_area, closeGate_area, State.setList, setArea_area]
  split
  · next same => rw [same]
  · rfl

theorem dropEntry_areasStand (k : Area) (r : ListReason) (i : Fin 24) : AreasStand s (s.dropEntry k r i) := by
  have erased : AreasStand s (s.setList k ((s.area k).list.eraseP fun e => e.input == i)) := setArea_areasStand s rfl
  refine erased.trans (.of_same fun l => ?_)
  rw [State.dropEntry, State.raiseListChange, raise_area, closeGate_area]

/-- R64: the notice of an entry's leaving tells the list's new length. -/
theorem dropEntry_raises (k : Area) (r : ListReason) (i : Fin 24) :
    Raises s (s.dropEntry k r i) [(.listChange, i.val + 1,
      ((areaNumber k * 65536 + listReasonCode r * 256
        + ((s.area k).list.eraseP fun e => e.input == i).length : Nat) : Int))] := by
  have closed : SameNotices s
      ((s.setList k ((s.area k).list.eraseP fun e => e.input == i)).closeGate i) := ⟨rfl, rfl, rfl, rfl⟩
  have length : (((s.setList k ((s.area k).list.eraseP fun e => e.input == i)).closeGate i).area k).list
      = (s.area k).list.eraseP fun e => e.input == i := by
    rw [closeGate_area, State.setList, setArea_area_self]
  have raised := Raises.raise ((s.setList k ((s.area k).list.eraseP fun e => e.input == i)).closeGate i) .listChange
    (i.val + 1) (areaNumber k * 65536 + listReasonCode r * 256
      + (((s.setList k ((s.area k).list.eraseP fun e => e.input == i)).closeGate i).area k).list.length : Nat)
  rw [length] at raised
  refine closed.then_raises ?_
  rwa [State.dropEntry, State.raiseListChange, length]

theorem updateEntry_list (k : Area) (i : Fin 24) (f : Entry → Entry) (l : Area) :
    ((s.updateEntry k i f).area l).list
      = if k = l then (s.area l).list.map (fun e => if e.input == i then f e else e) else (s.area l).list := by
  rw [State.updateEntry, State.setList, setArea_area]
  split
  · next same => rw [same]
  · rfl

theorem updateEntry_areasStand (k : Area) (i : Fin 24) (f : Entry → Entry) :
    AreasStand s (s.updateEntry k i f) := setArea_areasStand s rfl

theorem retarget_input (i j : Fin 24) :
    (s.retarget (onlyInput i)).input j = if i = j then (s.input j).aim (s.gateTargetOf j) else s.input j := by
  rw [State.input, State.retarget, Table.get_mapIdx]
  simp only [onlyInput, beq_iff_eq]
  rfl

/-- R68, R76: an evaluation writes the live flag and the gain target. -/
theorem reevaluate_crosspoint (which : Fin 384 → Bool) (x : Fin 384) :
    (s.reevaluate which).crosspoint x
      = { s.crosspoint x with live := ((s.reevaluate which).crosspoint x).live,
                              targetGain := ((s.reevaluate which).crosspoint x).targetGain } := by
  unfold State.reevaluate State.recompose State.relive
  rw [updateCrosspoints_crosspoint, updateCrosspoints_crosspoint]
  split <;> rfl

theorem reevaluate_crosspoint_other {which : Fin 384 → Bool} {x : Fin 384} (h : which x = false) :
    (s.reevaluate which).crosspoint x = s.crosspoint x := by
  unfold State.reevaluate State.recompose State.relive
  rw [updateCrosspoints_crosspoint, updateCrosspoints_crosspoint]
  simp [h]

/-- R36: what a gate-gain target depends on. -/
theorem gateTargetOf_congr {s t : State} {i : Fin 24} (settings : (t.input i).settings = (s.input i).settings)
    (areas : ∀ k, t.area k = s.area k) : t.gateTargetOf i = s.gateTargetOf i := by
  have area : t.inputArea i = s.inputArea i := by
    unfold State.inputArea
    rw [settings]
    exact congrArg (Option.map · _) (funext fun k => by unfold State.leadOf; rw [areas])
  unfold State.gateTargetOf State.isEntry
  rw [settings, area]
  cases (s.input i).settings.mode with
  | off => rfl
  | direct => rfl
  | gated =>
    cases s.inputArea i with
    | none => rfl
    | some k => simp only [areas]

/-! ### Entries of an input (R43) -/

section
variable {s}

/-- R43: a list names no input that is no entry of it. -/
theorem input_ne_of_mem (sound : ListsSound s) {i : Fin 24} {k : Area}
    (h : s.inputArea i ≠ some k ∨ s.isEntry i = false) {e : Entry} (mem : e ∈ (s.area k).list) : e.input ≠ i := by
  rintro rfl
  have own : s.inputArea e.input = some k := sound.own_list k _ (List.mem_map_of_mem mem)
  have entry : s.isEntry e.input = true := by
    simp only [State.isEntry, own, List.any_eq_true, beq_iff_eq]
    exact ⟨e, mem, rfl⟩
  exact h.elim (absurd own) fun none => nomatch entry.symm.trans none

/-- R43: once the entry of an input has left, the list names it no more. -/
theorem input_ne_of_mem_eraseP {i : Fin 24} {e : Entry} : ∀ {entries : List Entry},
    (entries.map fun e => e.input).Nodup → e ∈ entries.eraseP (fun e => e.input == i) → e.input ≠ i
  | [], _, mem => nomatch mem
  | f :: rest, nodup, mem => by
    obtain ⟨fresh, nodup⟩ := List.nodup_cons.1 nodup
    by_cases same : f.input = i
    · rw [List.eraseP_cons_of_pos (by simpa using same)] at mem
      exact fun other => fresh (List.mem_map.2 ⟨e, mem, other.trans same.symm⟩)
    · rw [List.eraseP_cons_of_neg (by simpa using same)] at mem
      rcases List.mem_cons.1 mem with rfl | mem
      · exact same
      · exact input_ne_of_mem_eraseP nodup mem

theorem eraseP_input_eq_self {i : Fin 24} {entries : List Entry} (h : ∀ e ∈ entries, e.input ≠ i) :
    entries.eraseP (fun e => e.input == i) = entries :=
  List.eraseP_of_forall_not fun e mem => by simpa using h e mem

theorem map_input_eq_self {i : Fin 24} {entries : List Entry} (f : Entry → Entry) (h : ∀ e ∈ entries, e.input ≠ i) :
    entries.map (fun e => if e.input == i then f e else e) = entries := by
  refine (List.map_congr_left fun e mem => ?_).trans (List.map_id _)
  exact if_neg (by simpa using h e mem)

end

/-! ### Withdrawals (R25) -/

section
variable {s} {i : Fin 24}

theorem withdraw_of_entry {k : Area} (area : s.inputArea i = some k) (entry : s.isEntry i = true) :
    s.withdraw i = s.dropEntry k .withdrawn i := by
  simp only [State.withdraw, area, entry, if_true]

theorem withdraw_of_not_entry (h : s.isEntry i = false) : s.withdraw i = s.closeGate i := by
  unfold State.withdraw
  split
  · rfl
  · rw [h]; rfl

theorem inputArea_of_isEntry (h : s.isEntry i = true) : ∃ k, s.inputArea i = some k := by
  cases area : s.inputArea i with
  | none => simp [State.isEntry, area] at h
  | some k => exact ⟨k, rfl⟩

theorem withdraw_areasStand : AreasStand s (s.withdraw i) := by
  cases h : s.isEntry i with
  | false => rw [withdraw_of_not_entry h]; exact .of_same fun k => closeGate_area s i k
  | true =>
    obtain ⟨k, area⟩ := inputArea_of_isEntry h
    rw [withdraw_of_entry area h]
    exact dropEntry_areasStand ..

/-- R25: a withdrawal takes the input's entry out of the one list that has it. -/
theorem withdraw_list (sound : ListsSound s) (l : Area) :
    ((s.withdraw i).area l).list = (s.area l).list.eraseP fun e => e.input == i := by
  cases h : s.isEntry i with
  | false =>
    rw [withdraw_of_not_entry h, eraseP_input_eq_self fun _ => input_ne_of_mem sound (.inr h)]
    rfl
  | true =>
    obtain ⟨k, area⟩ := inputArea_of_isEntry h
    rw [withdraw_of_entry area h, dropEntry_list]
    split
    · rfl
    · next other =>
      refine (eraseP_input_eq_self fun _ => input_ne_of_mem sound (.inl ?_)).symm
      rw [area]
      exact fun same => other (Option.some.inj same)

end

end Sys2Proof.Machine
end

section
/-! SUPPORT. R25: the stages of a change of an input's settings. -/

namespace Sys2Proof.Machine

open Sys2Proof.Safety

/-! ### The settings put in force (R25, step 1) -/

theorem withdraws_iff {old new : InputSettings} :
    withdraws old new = true ↔ old.area ≠ new.area ∨ (old.mode = .gated ∧ new.mode ≠ .gated) := by
  simp [withdraws, or_comm]

/-- R25: an input that takes new settings; its gate closes where they take it out of its list. -/
def Input.resettled (x : Input) (new : InputSettings) : Input :=
  { (if withdraws x.settings new then x.closed else x) with settings := new }

theorem resettled_of_withdraws {x : Input} {new : InputSettings} (h : withdraws x.settings new = true) :
    x.resettled new = { x.closed with settings := new } := by rw [Input.resettled, if_pos h]

theorem resettled_of_stays {x : Input} {new : InputSettings} (h : ¬ withdraws x.settings new = true) :
    x.resettled new = { x with settings := new } := by rw [Input.resettled, if_neg h]

/-- New settings change the gate and the QUALIFYING count at most. -/
theorem resettled_eq (x : Input) (new : InputSettings) :
    x.resettled new = { x with settings := new, gate := (x.resettled new).gate,
                               qualifying := (x.resettled new).qualifying } := by
  by_cases h : withdraws x.settings new = true
  · rw [resettled_of_withdraws h]; rfl
  · rw [resettled_of_stays h]

theorem resettled_self (x : Input) : x.resettled x.settings = x :=
  resettled_of_stays fun h => (withdraws_iff.1 h).elim (absurd rfl) fun h => absurd h.1 h.2

variable (s : State) (i : Fin 24) (new : InputSettings)

/-- R25: the withdrawal of an input, and its new settings. -/
def State.withdrawnTo (s : State) (i : Fin 24) (new : InputSettings) : State :=
  (s.withdraw i).setInput i { (s.withdraw i).input i with settings := new }

/-- What step 1 of R25 can be: new settings alone, or a withdrawal with the NOM attenuation of its list. -/
theorem putInputSettings_cases :
    (¬ withdraws (s.input i).settings new = true
        ∧ s.putInputSettings i new = s.setInput i { s.input i with settings := new })
      ∨ (withdraws (s.input i).settings new = true
        ∧ NomRecomputed (s.withdrawnTo i new) (s.putInputSettings i new)) := by
  unfold State.putInputSettings
  by_cases h : withdraws (s.input i).settings new = true
  · rw [if_pos h]
    refine .inr ⟨h, ?_⟩
    cases s.inputArea i with
    | none => exact .refl _
    | some k => exact updateNom_nomRecomputed _ k
  · exact .inl ⟨h, if_neg h⟩

theorem withdrawnTo_input (j : Fin 24) :
    (s.withdrawnTo i new).input j = if i = j then { (s.input j).closed with settings := new } else s.input j := by
  rw [State.withdrawnTo, setInput_input]
  split
  · next same => subst same; rw [withdraw_input, if_pos rfl]
  · next other => rw [withdraw_input, if_neg other]

theorem putInputSettings_input (j : Fin 24) :
    (s.putInputSettings i new).input j = if i = j then (s.input j).resettled new else s.input j := by
  obtain ⟨stays, e⟩ | ⟨leaves, recomputed⟩ := putInputSettings_cases s i new
  · rw [e, setInput_input]
    split
    · next same => subst same; rw [resettled_of_stays stays]
    · rfl
  · rw [recomputed.input, withdrawnTo_input]
    split
    · next same => subst same; rw [resettled_of_withdraws leaves]
    · rfl

theorem putInputSettings_areasStand : AreasStand s (s.putInputSettings i new) := by
  obtain ⟨_, e⟩ | ⟨_, recomputed⟩ := putInputSettings_cases s i new
  · rw [e]; exact .of_same fun _ => rfl
  · have put : AreasStand (s.withdraw i) (s.withdrawnTo i new) := .of_same fun _ => rfl
    exact (withdraw_areasStand.trans put).trans recomputed.areas

theorem putInputSettings_recordStands (x : Fin 384) : RecordStands s (s.putInputSettings i new) x := by
  obtain ⟨_, e⟩ | ⟨_, recomputed⟩ := putInputSettings_cases s i new
  · rw [e]; rfl
  · exact (RecordStands.of_same ((withdraw_onlyLists s i).crosspoint x)).trans (recomputed.record x)

/-- R25: settings that withdraw the input take its entry out of the one list that has it. -/
theorem putInputSettings_list_of_withdraws (sound : ListsSound s)
    (leaves : withdraws (s.input i).settings new = true) (k : Area) :
    ((s.putInputSettings i new).area k).list = (s.area k).list.eraseP fun e => e.input == i := by
  obtain ⟨stays, _⟩ | ⟨_, recomputed⟩ := putInputSettings_cases s i new
  · exact absurd leaves stays
  · exact (recomputed.list k).trans (withdraw_list sound k)

theorem putInputSettings_area_of_stays (stays : ¬ withdraws (s.input i).settings new = true) (k : Area) :
    (s.putInputSettings i new).area k = s.area k := by
  obtain ⟨_, e⟩ | ⟨leaves, _⟩ := putInputSettings_cases s i new
  · rw [e]; rfl
  · exact absurd leaves stays

theorem putInputSettings_sameNotices (stays : ¬ (withdraws (s.input i).settings new = true ∧ s.isEntry i = true)) :
    SameNotices s (s.putInputSettings i new) := by
  obtain ⟨_, e⟩ | ⟨leaves, recomputed⟩ := putInputSettings_cases s i new
  · rw [e]; exact ⟨rfl, rfl, rfl, rfl⟩
  · have none : s.isEntry i = false := by simpa [leaves] using stays
    have put : SameNotices s (s.withdrawnTo i new) := by
      rw [State.withdrawnTo, withdraw_of_not_entry none]; exact ⟨rfl, rfl, rfl, rfl⟩
    exact put.trans recomputed.notices

/-- R64: the withdrawal of an entry raises its LIST-CHANGE, with reason 4 and the length that is left. -/
theorem putInputSettings_raises {k : Area} (leaves : withdraws (s.input i).settings new = true)
    (entry : s.isEntry i = true) (area : s.inputArea i = some k) :
    Raises s (s.putInputSettings i new) [(.listChange, i.val + 1,
      ((areaNumber k * 65536 + 4 * 256 + ((s.area k).list.length - 1 : Nat) : Nat) : Int))] := by
  obtain ⟨stays, _⟩ | ⟨_, recomputed⟩ := putInputSettings_cases s i new
  · exact absurd leaves stays
  · obtain ⟨e, mem, own⟩ : ∃ e ∈ (s.area k).list, (e.input == i) = true := by
      simpa [State.isEntry, area] using entry
    have dropped := dropEntry_raises s k .withdrawn i
    rw [List.length_eraseP_of_mem mem own, ← withdraw_of_entry area entry] at dropped
    have put : SameNotices (s.withdraw i) (s.withdrawnTo i new) := ⟨rfl, rfl, rfl, rfl⟩
    exact (dropped.then_same put).then_same recomputed.notices

/-! ### The new priority (R25, step 2) -/

theorem putPriority_input (j : Fin 24) : (s.putPriority i).input j = s.input j := by
  unfold State.putPriority
  split <;> rfl

theorem putPriority_crosspoint (x : Fin 384) : (s.putPriority i).crosspoint x = s.crosspoint x := by
  unfold State.putPriority
  split <;> rfl

theorem putPriority_sameNotices : SameNotices s (s.putPriority i) := by
  unfold State.putPriority
  split
  · exact .refl s
  · exact ⟨rfl, rfl, rfl, rfl⟩

theorem putPriority_areasStand : AreasStand s (s.putPriority i) := by
  unfold State.putPriority
  split
  · exact .refl s
  · exact updateEntry_areasStand ..

theorem putPriority_list_of_area {k : Area} (area : s.inputArea i = some k) (l : Area) :
    ((s.putPriority i).area l).list
      = if k = l then (s.area l).list.map fun e =>
          if e.input == i then { e with priority := (s.input i).settings.priority } else e
        else (s.area l).list := by
  simp only [State.putPriority, area]
  exact updateEntry_list ..

/-- A list that does not name the input stands. -/
theorem putPriority_list_of_not_listed {l : Area} (h : ∀ e ∈ (s.area l).list, e.input ≠ i) :
    ((s.putPriority i).area l).list = (s.area l).list := by
  cases area : s.inputArea i with
  | none => simp only [State.putPriority, area]
  | some k =>
    rw [putPriority_list_of_area s i area]
    split
    · exact map_input_eq_self _ h
    · rfl

/-! ### The stages of a change (R25) -/

/-- R25, steps 1 and 2: the settings, the removal and the priority. -/
def State.inputListed (s : State) (i : Fin 24) (new : InputSettings) : State :=
  if new.priority = (s.input i).settings.priority then s.putInputSettings i new
  else (s.putInputSettings i new).putPriority i

/-- R20, R25: the settings and the list, and the recompute for a new station. -/
def State.inputPlaced (s : State) (i : Fin 24) (new : InputSettings) : State :=
  if new.station = (s.input i).settings.station then s.inputListed i new
  else (s.inputListed i new).retime (ofInput i)

/-- A change of settings is its two stages, the gate-gain target, and the input's crosspoints. -/
theorem changeInput_of_change {s : State} {i : Fin 24} {new : InputSettings} (h : new ≠ (s.input i).settings) :
    s.changeInput i new
      = if new.mode = (s.input i).settings.mode ∧ new.area = (s.input i).settings.area
        then (s.inputPlaced i new).retarget (onlyInput i)
        else ((s.inputPlaced i new).retarget (onlyInput i)).reevaluate (ofInput i) := if_neg h

@[simp] theorem changeInput_self : s.changeInput i (s.input i).settings = s := if_pos rfl

/-- What the last steps of a change leave: a gate-gain target, and live flags and gain targets of the input's
crosspoints. -/
structure InputRetargeted (i : Fin 24) (s t : State) : Prop where
  plan : OnlyPlan (s.retarget (onlyInput i)) t
  record : ∀ x, t.crosspoint x = { s.crosspoint x with live := (t.crosspoint x).live,
                                                       targetGain := (t.crosspoint x).targetGain }
  other : ∀ x, inputOf x ≠ i → t.crosspoint x = s.crosspoint x
  timing : KeepsTiming s t
  notices : SameNotices s t

theorem changeInput_inputRetargeted {s : State} {i : Fin 24} {new : InputSettings}
    (h : new ≠ (s.input i).settings) : InputRetargeted i (s.inputPlaced i new) (s.changeInput i new) := by
  rw [changeInput_of_change h]
  split
  · exact ⟨.refl _, fun _ => rfl, fun _ _ => rfl, retarget_keepsTiming .., ⟨rfl, rfl, rfl, rfl⟩⟩
  · refine ⟨reevaluate_onlyPlan .., fun x => reevaluate_crosspoint .., fun x other => ?_,
      (retarget_keepsTiming ..).trans (reevaluate_keepsTiming ..), ⟨rfl, rfl, rfl, rfl⟩⟩
    exact reevaluate_crosspoint_other _ (by simpa [ofInput] using other)

variable {s i new}

theorem InputRetargeted.area {t : State} (h : InputRetargeted i s t) (k : Area) : t.area k = s.area k := h.plan.area k

theorem InputRetargeted.input_other {t : State} (h : InputRetargeted i s t) {j : Fin 24} (other : i ≠ j) :
    t.input j = s.input j := by rw [h.plan.input, retarget_input, if_neg other]

/-- R36, R39: the input takes the gate-gain target of the settings in force. -/
theorem InputRetargeted.input {t : State} (h : InputRetargeted i s t) :
    t.input i = (s.input i).aim (t.gateTargetOf i) := by
  have aimed : t.input i = (s.input i).aim (s.gateTargetOf i) := by rw [h.plan.input, retarget_input, if_pos rfl]
  rw [gateTargetOf_congr (s := s) (by rw [aimed]; rfl) h.area]
  exact aimed

variable (s i new)

theorem inputListed_input (j : Fin 24) :
    (s.inputListed i new).input j = if i = j then (s.input j).resettled new else s.input j := by
  unfold State.inputListed
  split
  · exact putInputSettings_input ..
  · exact (putPriority_input ..).trans (putInputSettings_input ..)

theorem inputPlaced_input (j : Fin 24) : (s.inputPlaced i new).input j = (s.inputListed i new).input j := by
  unfold State.inputPlaced
  split
  · rfl
  · exact (retime_onlyPlan ..).input j

theorem inputPlaced_area (k : Area) : (s.inputPlaced i new).area k = (s.inputListed i new).area k := by
  unfold State.inputPlaced
  split
  · rfl
  · exact (retime_onlyPlan ..).area k

theorem inputListed_areasStand : AreasStand s (s.inputListed i new) := by
  unfold State.inputListed
  split
  · exact putInputSettings_areasStand ..
  · exact (putInputSettings_areasStand ..).trans (putPriority_areasStand ..)

theorem inputListed_recordStands (x : Fin 384) : RecordStands s (s.inputListed i new) x := by
  unfold State.inputListed
  split
  · exact putInputSettings_recordStands ..
  · exact (putInputSettings_recordStands ..).trans (.of_same (putPriority_crosspoint ..))

theorem inputListed_raises {notices : List (NoticeKind × Nat × Int)}
    (h : Raises s (s.putInputSettings i new) notices) : Raises s (s.inputListed i new) notices := by
  unfold State.inputListed
  split
  · exact h
  · exact h.then_same (putPriority_sameNotices ..)

/-! ### The lists (R25, R43) -/

/-- R25: an entry that its input's settings withdraw leaves, and the other entries stand. -/
theorem inputListed_list_of_withdraws (sound : ListsSound s) (leaves : withdraws (s.input i).settings new = true)
    (k : Area) : ((s.inputListed i new).area k).list = (s.area k).list.eraseP fun e => e.input == i := by
  have left := putInputSettings_list_of_withdraws s i new sound leaves k
  unfold State.inputListed
  split
  · exact left
  · refine (putPriority_list_of_not_listed _ _ fun e mem => ?_).trans left
    rw [left] at mem
    exact input_ne_of_mem_eraseP (sound.no_repeats k) mem

theorem inputListed_list_of_same (stays : ¬ withdraws (s.input i).settings new = true)
    (same : new.priority = (s.input i).settings.priority) (k : Area) :
    ((s.inputListed i new).area k).list = (s.area k).list := by
  rw [State.inputListed, if_pos same, putInputSettings_area_of_stays s i new stays]

/-- R25: an entry that stays takes its input's new priority. -/
theorem inputListed_list_of_priority (stays : ¬ withdraws (s.input i).settings new = true)
    (differs : new.priority ≠ (s.input i).settings.priority) {k : Area} (area : s.inputArea i = some k) :
    ((s.inputListed i new).area k).list
      = (s.area k).list.map fun e => if e.input = i then { e with priority := new.priority } else e := by
  have settings : ((s.putInputSettings i new).input i).settings = new := by
    rw [putInputSettings_input, if_pos rfl]; rfl
  have same : new.area = (s.input i).settings.area := by
    by_contra other
    exact stays (withdraws_iff.2 (.inl (Ne.symm other)))
  have own : (s.putInputSettings i new).inputArea i = some k := by
    rw [← area, State.inputArea, settings, same, State.inputArea]
    refine congrArg (Option.map · _) (funext fun l => ?_)
    rw [State.leadOf, putInputSettings_area_of_stays s i new stays, State.leadOf]
  rw [State.inputListed, if_neg differs, putPriority_list_of_area _ _ own, if_pos rfl,
    putInputSettings_area_of_stays s i new stays, settings]
  simp only [beq_iff_eq]

/-- R43: a list that does not name the input stands. -/
theorem inputListed_list_of_not_listed {k : Area} (sound : ListsSound s)
    (h : s.inputArea i ≠ some k ∨ s.isEntry i = false) :
    ((s.inputListed i new).area k).list = (s.area k).list := by
  have others {e : Entry} (mem : e ∈ (s.area k).list) : e.input ≠ i := input_ne_of_mem sound h mem
  by_cases leaves : withdraws (s.input i).settings new = true
  · rw [inputListed_list_of_withdraws s i new sound leaves, eraseP_input_eq_self fun _ => others]
  · have put : ((s.putInputSettings i new).area k).list = (s.area k).list := by
      rw [putInputSettings_area_of_stays s i new leaves]
    unfold State.inputListed
    split
    · exact put
    · refine (putPriority_list_of_not_listed _ _ fun e mem => ?_).trans put
      rw [put] at mem
      exact others mem

end Sys2Proof.Machine
end

section
/-! PROOFS. O23: INSET. -/

namespace Sys2Proof.Machine

open Sys2Proof.Safety

variable (s : State) (i : Fin 24) (new : InputSettings)

/-! ### What a change of settings does (R20, R25, R39) -/

theorem not_withdraws_self (x : InputSettings) : ¬ withdraws x x = true := fun h =>
  (withdraws_iff.1 h).elim (absurd rfl) fun h => h.2 h.1

theorem inputListed_self : s.inputListed i (s.input i).settings = s.setInput i (s.input i) := by
  rw [State.inputListed, if_pos rfl, State.putInputSettings, if_neg (not_withdraws_self _)]

theorem inputPlaced_self : s.inputPlaced i (s.input i).settings = s.setInput i (s.input i) :=
  (if_pos rfl).trans (inputListed_self s i)

theorem putInputSettings_onlyMixing : OnlyMixing s (s.putInputSettings i new) := by
  unfold State.putInputSettings
  split
  · have put := (withdraw_onlyLists s i).mixing.trans
      (setInput_onlyLists _ i { (s.withdraw i).input i with settings := new }).mixing
    dsimp only
    split
    · exact put
    · exact put.trans (updateNom_onlyMixing ..)
  · exact (setInput_onlyLists ..).mixing

theorem putPriority_onlyMixing : OnlyMixing s (s.putPriority i) := by
  unfold State.putPriority
  split
  · exact .refl s
  · exact (setArea_onlyLists ..).mixing

theorem inputPlaced_onlyMixing : OnlyMixing s (s.inputPlaced i new) := by
  have listed : OnlyMixing s (s.inputListed i new) := by
    unfold State.inputListed
    split
    · exact putInputSettings_onlyMixing ..
    · exact (putInputSettings_onlyMixing ..).trans (putPriority_onlyMixing ..)
  unfold State.inputPlaced
  split
  · exact listed
  · exact listed.trans (retime_onlyPlan ..).mixing

theorem changeInput_onlyMixing : OnlyMixing s (s.changeInput i new) := by
  by_cases h : new = (s.input i).settings
  · rw [h, changeInput_self]; exact .refl s
  · exact ((inputPlaced_onlyMixing ..).trans (retarget_onlyLists ..).mixing).trans
      (changeInput_inputRetargeted h).plan.mixing

theorem changeInput_area (k : Area) : (s.changeInput i new).area k = (s.inputListed i new).area k := by
  by_cases h : new = (s.input i).settings
  · rw [h, changeInput_self, inputListed_self]; rfl
  · rw [(changeInput_inputRetargeted h).area, inputPlaced_area]

theorem changeInput_input_other {j : Fin 24} (other : i ≠ j) : (s.changeInput i new).input j = s.input j := by
  by_cases h : new = (s.input i).settings
  · rw [h, changeInput_self]
  · rw [(changeInput_inputRetargeted h).input_other other, inputPlaced_input, inputListed_input, if_neg other]

/-- R25, R39: the input takes its new settings, and a gate-gain target. -/
theorem changeInput_input_of_change (h : new ≠ (s.input i).settings) :
    (s.changeInput i new).input i = ((s.input i).resettled new).aim ((s.changeInput i new).gateTargetOf i) := by
  rw [(changeInput_inputRetargeted h).input, inputPlaced_input, inputListed_input, if_pos rfl]

/-- What a change leaves of the input is that of its new settings, but for the target and the reversal count. -/
theorem changeInput_input : (s.changeInput i new).input i
    = { (s.input i).resettled new with target := ((s.changeInput i new).input i).target,
                                       reversals := ((s.changeInput i new).input i).reversals } := by
  by_cases h : new = (s.input i).settings
  · rw [h, changeInput_self, resettled_self]
  · rw [changeInput_input_of_change s i new h]; rfl

theorem changeInput_reversalCounted : ReversalCounted (s.input i) ((s.changeInput i new).input i) := by
  by_cases h : new = (s.input i).settings
  · rw [h, changeInput_self, ReversalCounted, if_neg (by omega)]
  · have counted := (aim_reversalCounted (x := (s.input i).resettled new)
      (target := (s.changeInput i new).gateTargetOf i)).1
    rw [← changeInput_input_of_change s i new h] at counted
    rw [resettled_eq] at counted
    exact counted

/-- A change leaves a crosspoint's record as its stages do, but for the live flag and the gain target. -/
theorem changeInput_crosspoint (x : Fin 384) : (s.changeInput i new).crosspoint x
    = { (s.inputPlaced i new).crosspoint x with live := ((s.changeInput i new).crosspoint x).live,
                                                targetGain := ((s.changeInput i new).crosspoint x).targetGain } := by
  by_cases h : new = (s.input i).settings
  · rw [h, changeInput_self, inputPlaced_self]; rfl
  · exact (changeInput_inputRetargeted h).record x

theorem changeInput_crosspoint_other {x : Fin 384} (other : inputOf x ≠ i) :
    (s.changeInput i new).crosspoint x = (s.inputPlaced i new).crosspoint x := by
  by_cases h : new = (s.input i).settings
  · rw [h, changeInput_self, inputPlaced_self]; rfl
  · exact (changeInput_inputRetargeted h).other x other

/-- R20: without a new station, and at the crosspoints of other inputs, no delay changes. -/
theorem inputPlaced_recordStands {x : Fin 384} (h : inputOf x ≠ i ∨ new.station = (s.input i).settings.station) :
    RecordStands s (s.inputPlaced i new) x := by
  refine (inputListed_recordStands s i new x).trans (.of_same ?_)
  unfold State.inputPlaced
  split
  · rfl
  · next moved =>
    exact retime_crosspoint_other rfl (by simpa [ofInput] using h.resolve_right moved)

theorem inputPlaced_gains (x : Fin 384) :
    ((s.inputPlaced i new).crosspoint x).activeGain = (s.crosspoint x).activeGain
      ∧ ((s.inputPlaced i new).crosspoint x).send = (s.crosspoint x).send := by
  have listed := inputListed_recordStands s i new x
  rw [RecordStands] at listed
  unfold State.inputPlaced
  split
  · rw [listed]; exact ⟨rfl, rfl⟩
  · obtain ⟨_, send, _, active⟩ := retime_sameGains (which := ofInput i) listed
    exact ⟨active, send⟩

/-- R20, R80 to R82: a new station hands the input's crosspoints their targets. -/
theorem inputPlaced_retimed {x : Fin 384} (own : inputOf x = i) (moved : new.station ≠ (s.input i).settings.station) :
    Retimed (s.inputPlaced i new) x (s.crosspoint x) ((s.inputPlaced i new).crosspoint x) := by
  have listed := inputListed_recordStands s i new x
  rw [RecordStands] at listed
  have handed := retime_retimed (which := ofInput i) listed (by simpa [ofInput] using own)
  rw [State.inputPlaced, if_neg moved]
  exact handed

theorem changeInput_retimed {x : Fin 384} (own : inputOf x = i) (moved : new.station ≠ (s.input i).settings.station) :
    Retimed (s.changeInput i new) x (s.crosspoint x) ((s.changeInput i new).crosspoint x) := by
  have changed : new ≠ (s.input i).settings := fun same => moved (by rw [same])
  have retargeted := changeInput_inputRetargeted changed
  have record := changeInput_crosspoint s i new x
  rw [record]
  have input : (s.changeInput i new).input i = ((s.inputPlaced i new).input i).aim _ := retargeted.input
  subst own
  refine retimed_congr (s := s.inputPlaced _ new) (inputPlaced_retimed s _ new rfl moved) ?_ ?_ ?_
    (retargeted.timing.stands x).sum
  · rw [input]; rfl
  · rw [input]; rfl
  · rw [retargeted.plan.zone]; rfl

/-- R18, R20, R64: a change raises what its withdrawal raises, and then the notices of its recompute. -/
theorem changeInput_raises {notices : List (NoticeKind × Nat × Int)}
    (withdrawn : Raises s (s.putInputSettings i new) notices) :
    Raises s (s.changeInput i new) (notices ++ if (s.input i).settings.station = new.station then []
      else clampedNotices (s.changeInput i new) fun y => inputOf y == i) := by
  by_cases h : new = (s.input i).settings
  · subst h
    have back : SameNotices (s.putInputSettings i (s.input i).settings) s := by
      rw [State.putInputSettings, if_neg (not_withdraws_self _)]; exact ⟨rfl, rfl, rfl, rfl⟩
    rw [if_pos rfl, List.append_nil, changeInput_self]
    exact withdrawn.then_same back
  · have retargeted := changeInput_inputRetargeted h
    have listed := inputListed_raises s i new withdrawn
    refine Raises.then_same ?_ retargeted.notices
    have timing := retargeted.timing
    by_cases same : new.station = (s.input i).settings.station
    · rw [if_pos same.symm, List.append_nil, State.inputPlaced, if_pos same]
      exact listed
    · rw [if_neg (Ne.symm same)]
      rw [State.inputPlaced, if_neg same] at timing ⊢
      exact listed.trans (retime_raises_later timing fun _ => rfl)

/-! ### How an INSET is settled (R24, R157) -/

theorem answerInset_of_holds {body : List Byte} {x : InputSettings}
    (held : Holds body 0 (byteOf (i.val + 1) ++ x.bytes)) (ends : body.length = 14) (sent : InputSent x) :
    s.answerInset body = ⟨s.changeInput i (inputTaken x), doneUnless (inputTaken x ≠ x), []⟩ := by
  obtain ⟨input, record⟩ := holds_append.1 held
  have record : Holds body 1 x.bytes := record
  rw [State.answerInset, show lengthIs body 14 = true from decide_eq_true ends, fitting_true,
    oneBased_of_holds input (by decide), withTarget_some, inputSettings_of_holds record sent, withValue_some,
    inputLimit_eq, doneOrClamped_decide]

theorem setLine_gateTargetOf (line : Line) (l : LineState) : (s.setLine line l).gateTargetOf i = s.gateTargetOf i :=
  gateTargetOf_congr (by simp) (by simp)

end Sys2Proof.Machine

namespace Sys2Proof.Proofs

open Sys2Proof Sys2Proof.Machine Sys2Proof.Safety

/-- Settles O23: an INSET changes the input's settings in stages: the list (`inputListed`), the recompute for a new
station (`inputPlaced`), and the gate-gain target with the input's crosspoints (`InputRetargeted`). -/
theorem insetSetsAnInput : Obligations.InsetSetsAnInput := by
  intro s tag i x ready sent
  have taken := exec_inset ready tag (byteOf (i.val + 1) ++ x.bytes)
  rw [answerInset_of_holds s i (holds_self _) (by simp) sent, Answer.settle] at taken
  obtain ⟨_, _, _, _, _, frame⟩ := changeInput_onlyMixing s i (inputTaken x)
  have input := changeInput_input s i (inputTaken x)
  refine ⟨_, taken, ?frame, settle_replied .., ?settings, fun j other => ?others, ?signal, fun k => ?areas,
    fun y other => ?live, fun same => ?unchanged, fun differs => ?target, ?reversals, fun y => ?plan,
    fun leaves means => ?entry⟩
  case frame => rw [frame]; rfl
  case settings => rw [setLine_input, input]; rfl
  case others => rw [setLine_input, changeInput_input_other s i _ (Ne.symm other)]
  case signal => rw [setLine_input, input, resettled_eq]; exact ⟨rfl, rfl, rfl, rfl, rfl, rfl, rfl⟩
  case areas =>
    rw [setLine_area, changeInput_area]
    exact (inputListed_areasStand s i (inputTaken x)).area k
  case live =>
    rw [setLine_crosspoint, changeInput_crosspoint_other s i _ other, inputPlaced_recordStands s i _ (.inl other)]
  case unchanged => rw [← same, changeInput_self]; rfl
  case target =>
    rw [setLine_input, setLine_gateTargetOf, changeInput_input_of_change s i _ (Ne.symm differs)]
    rfl
  case reversals => rw [setLine_input]; exact changeInput_reversalCounted ..
  case plan =>
    obtain ⟨active, send⟩ := inputPlaced_gains s i (inputTaken x) y
    rw [setLine_crosspoint]
    refine ⟨?_, ?_, fun stands => ?_, fun own moved => ?_⟩
    · rw [changeInput_crosspoint]; exact active
    · rw [changeInput_crosspoint]; exact send
    · rw [changeInput_crosspoint, inputPlaced_recordStands s i (inputTaken x) (stands.imp_right Eq.symm)]
      exact ⟨⟨rfl, rfl, rfl, rfl⟩, rfl⟩
    · exact setLine_retimed (changeInput_retimed s i (inputTaken x) own (Ne.symm moved)) ..
  case entry =>
    have leaves_iff : leaves ↔ withdraws (s.input i).settings (inputTaken x) = true := means.trans withdraws_iff.symm
    rw [leaves_iff]
    simp only [setLine_input, setLine_area, changeInput_area]
    refine ⟨fun gone => ?_, fun stays => ?_, fun sound => ⟨fun k area entry => ⟨fun gone => ?_, fun stays same => ?_,
      fun stays differs => ?_⟩, fun k => inputListed_list_of_not_listed s i _ sound, fun withdrawal left stood => ?_⟩⟩
    · rw [input, resettled_of_withdraws gone]; exact ⟨rfl, rfl⟩
    · rw [input, resettled_of_stays stays]; exact ⟨rfl, rfl⟩
    · exact inputListed_list_of_withdraws s i _ sound gone k
    · exact inputListed_list_of_same s i _ stays same.symm k
    · exact inputListed_list_of_priority s i _ stays (Ne.symm differs) area
    · have withdrawn : Raises s (s.putInputSettings i (inputTaken x)) withdrawal := by
        by_cases gone : withdraws (s.input i).settings (inputTaken x) = true ∧ s.isEntry i = true
        · obtain ⟨gone, entry⟩ := gone
          obtain ⟨k, area⟩ := inputArea_of_isEntry entry
          rw [left k gone entry area]
          exact putInputSettings_raises s i _ gone entry area
        · rw [stood gone]
          exact (putInputSettings_sameNotices s i _ gone).raises
      refine (((changeInput_raises s i _ withdrawn).then_same (setLine_sameNotices ..)).of_eq ?_).notified
      rw [clampedNotices_congr (fun _ => rfl) fun y => ((setLine_keepsTiming _ _ _).stands y).sum]
      rfl

end Sys2Proof.Proofs
end

section
/-! SUPPORT. R121: a scene put in force where every open list is empty, as at a start-up (R65): nothing leaves a list,
no attenuation differs, and the join map alone is written. -/

namespace Sys2Proof.Machine

open Sys2Proof.Safety

/-- R65: no list has an entry, and no area an attenuation. -/
structure ListsEmpty (s : State) : Prop where
  list : ∀ k, (s.area k).list = []
  nom : ∀ k, (s.area k).nom = 0

/-! ### Parts written as they stand -/

variable {s : State}

theorem setArea_of_eq {k : Area} {u : AreaUnit} (h : u = s.area k) : s.setArea k u = s := by
  rw [h, State.setArea, State.area, Table.set_get]

theorem setInput_of_eq {i : Fin 24} {x : Input} (h : x = s.input i) : s.setInput i x = s := by
  rw [h, State.setInput, State.input, Table.set_get]

variable (empty : ListsEmpty s)
include empty

theorem ListsEmpty.isEntry (i : Fin 24) : s.isEntry i = false := by
  unfold State.isEntry
  split
  · rfl
  · rw [empty.list]; rfl

theorem ListsEmpty.setJoin (k : Area) (lead : Option Area) : ListsEmpty (s.setJoin k lead) := by
  have area (l : Area) : ((s.setJoin k lead).area l).list = (s.area l).list
      ∧ ((s.setJoin k lead).area l).nom = (s.area l).nom := by
    rw [State.setJoin, setArea_area]
    split
    · next same => subst same; exact ⟨rfl, rfl⟩
    · exact ⟨rfl, rfl⟩
  exact ⟨fun l => (area l).1.trans (empty.list l), fun l => (area l).2.trans (empty.nom l)⟩

/-- R25, R42: an input with a closed gate and no count has nothing that a withdrawal could take. -/
theorem withdrawFor_of_empty {scene : Scene} {i : Fin 24} (closed : (s.input i).closed = s.input i) :
    s.withdrawFor scene i = s := by
  unfold State.withdrawFor
  split
  · rw [withdraw_of_not_entry (empty.isEntry i)]
    exact setInput_of_eq closed
  · rfl

theorem setList_of_empty (k : Area) : s.setList k [] = s :=
  setArea_of_eq (by rw [← empty.list k])

theorem setNom_of_empty (k : Area) : s.setNom k = s := by
  refine setArea_of_eq ?_
  have none : s.nomOf k = (s.area k).nom := by
    rw [empty.nom, State.nomOf, empty.list]
    split <;> rfl
  rw [none]

theorem releaseRetained_of_empty (k : Area) : s.releaseRetained k = s := by
  rw [State.releaseRetained, empty.list]
  rfl

theorem shedToMaxOpen_of_empty (k : Area) (r : ListReason) : s.shedToMaxOpen k r = s := by
  rw [State.shedToMaxOpen, empty.list, List.length_nil, Nat.zero_sub]
  rfl

theorem areaConsequence_of_empty (before : Area → AreaSettings) (k : Area) : s.areaConsequence before k = s := by
  simp only [State.areaConsequence, State.applySettings, shedToMaxOpen_of_empty empty, releaseRetained_of_empty empty,
    ite_self]

/-- R96, R97: a join of empty lists writes the join map alone. -/
theorem joinLists_of_empty (x y : Area) : s.joinLists x y = s.setJoin x (some y) := by
  have joined := empty.setJoin x (some y)
  have merged : s.mergeLists x y = s.setJoin x (some y) := by
    rw [State.mergeLists, empty.list, empty.list, setList_of_empty joined]
    exact setList_of_empty joined y
  have company : (s.setJoin x (some y)).releaseCompany y = s.setJoin x (some y) := by
    rw [State.releaseCompany, joined.list]; rfl
  rw [State.joinLists, merged, company, State.releaseWhereNone, releaseRetained_of_empty joined, ite_self,
    shedToMaxOpen_of_empty joined]

theorem joinForMap_of_empty {new : Area → Option Area} {k : Area} (alone : (s.area k).joinedInto = none) :
    State.joinForMap new s k = s.setJoin k (new k) := by
  unfold State.joinForMap
  split
  · next none => exact (setArea_of_eq (by rw [none, ← alone])).symm
  · next lead named => rw [alone, if_neg (by simp), joinLists_of_empty empty, named]

omit empty

theorem splitForMap_of_alone {new : Area → Option Area} {k : Area} (alone : (s.area k).joinedInto = none) :
    State.splitForMap new s k = s := by
  unfold State.splitForMap
  rw [alone]

/-- R104: areas that are alone, with empty lists, take the entries of a new join map. -/
theorem joinForMap_foldl {new : Area → Option Area} : ∀ {ks : List Area} {s : State}, ListsEmpty s → ks.Nodup →
    (∀ k ∈ ks, (s.area k).joinedInto = none) →
      ks.foldl (State.joinForMap new) s = ks.foldl (fun t k => t.setJoin k (new k)) s
  | [], _, _, _, _ => rfl
  | k :: ks, s, empty, nodup, alone => by
    obtain ⟨fresh, nodup⟩ := List.nodup_cons.1 nodup
    rw [List.foldl_cons, List.foldl_cons, joinForMap_of_empty empty (alone k List.mem_cons_self)]
    refine joinForMap_foldl (empty.setJoin k _) nodup fun l mem => ?_
    have other : k ≠ l := fun same => fresh (same ▸ mem)
    rw [State.setJoin, setArea_area, if_neg other]
    exact alone l (List.mem_cons_of_mem _ mem)

/-- R93: the whole join map written. -/
def State.setMap (s : State) (new : Area → Option Area) : State := allAreas.foldl (fun t k => t.setJoin k (new k)) s

theorem setMap_area (new : Area → Option Area) (k : Area) :
    (s.setMap new).area k = { s.area k with joinedInto := new k } := by
  cases k <;> simp [State.setMap, allAreas, State.setJoin, setArea_area]

theorem changeMap_of_empty (empty : ListsEmpty s) (alone : ∀ k, (s.area k).joinedInto = none)
    (new : Area → Option Area) : s.changeMap new = s.setMap new := by
  rw [State.changeMap, List.foldl_fixed' fun k => splitForMap_of_alone (alone k)]
  exact joinForMap_foldl empty (by decide) fun k _ => alone k

end Sys2Proof.Machine
end

section
/-! SUPPORT. R119, R121, R135: the parts of the state as a start-up sets them up from a scene. -/

namespace Sys2Proof.Machine

open Sys2Proof.Safety

/-- R128, R132: the geometry and the alarm settings that a start-up puts in force. -/
def Store.geometry (store : Store) : Building := store.building.getD Building.factory

def Store.alarmSettings (store : Store) : AlarmSettings := store.alarm.getD AlarmSettings.factory

/-- R42, R65, R67, R116: the parts that a scene governs stand as they do before a start-up, but for what the scene and
the stores give them. -/
structure SetUp (store : Store) (scene : Scene) (s : State) : Prop where
  input : ∀ i, s.input i = { Input.initial with settings := scene.inputs.get i }
  area : ∀ k, s.area k = { AreaUnit.initial with settings := scene.areas.get (areaIndex k),
                                                 joinedInto := scene.joins.get (areaIndex k) }
  crosspoint : ∀ x, s.crosspoint x = { Crosspoint.initial 576 with send := scene.sends.get x }
  zone : ∀ z, s.zone z = { Zone.initial with geometry := store.geometry.zones.get z, scene := scene.zones.get z,
                                             levelInEffect := store.alarmSettings.levels.get z }
  panel : ∀ n, s.panel n = { Panel.initial with scene := scene.panels.get n, building := store.geometry.panels.get n }

variable {s t : State} {store : Store} {scene : Scene}

theorem SetUp.empty (h : SetUp store scene s) : ListsEmpty s :=
  ⟨fun k => by rw [h.area]; rfl, fun k => by rw [h.area]; rfl⟩

@[simp] theorem factory_inputs (i : Fin 24) : Scene.factory.inputs.get i = InputSettings.factory :=
  Table.get_replicate ..
@[simp] theorem factory_zones (z : Fin 16) : Scene.factory.zones.get z = ZoneScene.factory := Table.get_replicate ..
@[simp] theorem factory_sends (x : Fin 384) : Scene.factory.sends.get x = -1000 := Table.get_replicate ..
@[simp] theorem factory_areas (k : Fin 4) : Scene.factory.areas.get k = AreaSettings.factory := Table.get_replicate ..
@[simp] theorem factory_joins (k : Fin 4) : Scene.factory.joins.get k = none := Table.get_replicate ..
@[simp] theorem factory_panels (n : Fin 8) : Scene.factory.panels.get n = PanelScene.factory := Table.get_replicate ..

theorem setMap_sameNotices (new : Area → Option Area) : SameNotices s (s.setMap new) := ⟨rfl, rfl, rfl, rfl⟩

/-- R121, stages 2 and 3. -/
def State.putSettings (s : State) (scene : Scene) : State := (s.putFields scene).putAreas scene

theorem putSettings_area (s : State) (scene : Scene) (k : Area) :
    (s.putSettings scene).area k
      = { s.area k with list := (s.area k).list.map scene.reprioritise,
                        settings := scene.areas.get (areaIndex k) } := by
  rw [State.area, State.putSettings, State.putAreas, Table.get_mapIdx, State.putFields, Table.get_mapIdx]
  rfl

theorem putSettings_input (s : State) (scene : Scene) (i : Fin 24) :
    (s.putSettings scene).input i = { s.input i with settings := scene.inputs.get i } := Table.get_mapIdx ..

theorem putSettings_crosspoint (s : State) (scene : Scene) (x : Fin 384) :
    (s.putSettings scene).crosspoint x = { s.crosspoint x with send := scene.sends.get x } := Table.get_mapIdx ..

theorem putSettings_zone (s : State) (scene : Scene) (z : Fin 16) :
    (s.putSettings scene).zone z = { s.zone z with scene := scene.zones.get z } := Table.get_mapIdx ..

theorem putSettings_panel (s : State) (scene : Scene) (n : Fin 8) :
    (s.putSettings scene).panel n = (s.panel n).takeScene (scene.panels.get n) := Table.get_mapIdx ..

/-- The fields and the join map of a scene. -/
def State.withScene (s : State) (scene : Scene) : State :=
  (s.putSettings scene).setMap fun k => scene.joins.get (areaIndex k)

/-- R121, stages 1 to 5, from the factory live setup with empty lists. -/
theorem putScene_of_setUp (h : SetUp store Scene.factory s) (scene : Scene) : s.putScene scene = s.withScene scene := by
  have withdrawn : (List.finRange 24).foldl (State.withdrawFor scene) s = s :=
    List.foldl_fixed' (fun i => withdrawFor_of_empty h.empty (by rw [h.input]; rfl)) _
  have area (k : Area) : (s.putSettings scene).area k
      = { AreaUnit.initial with settings := scene.areas.get (areaIndex k) } := by
    rw [putSettings_area, h.area, factory_joins]
    rfl
  have put : ListsEmpty (s.putSettings scene) := ⟨fun k => by rw [area]; rfl, fun k => by rw [area]; rfl⟩
  have mapped : ListsEmpty ((s.putSettings scene).setMap fun k => scene.joins.get (areaIndex k)) :=
    ⟨fun k => by rw [setMap_area, area]; rfl, fun k => by rw [setMap_area, area]; rfl⟩
  have joined := changeMap_of_empty put (fun k => by rw [area]; rfl) fun k => scene.joins.get (areaIndex k)
  unfold State.putScene
  rw [withdrawn]
  dsimp only
  rw [← State.putSettings, joined, List.foldl_fixed' fun k => areaConsequence_of_empty mapped _ k,
    List.foldl_fixed' fun k => setNom_of_empty mapped k, State.withScene]

/-- R121: a scene in force, where the factory live setup stood. -/
theorem putScene_setUp (h : SetUp store Scene.factory s) (scene : Scene) : SetUp store scene (s.putScene scene) := by
  rw [putScene_of_setUp h]
  refine ⟨fun i => ?_, fun k => ?_, fun x => ?_, fun z => ?_, fun n => ?_⟩
  · exact (putSettings_input s scene i).trans (by rw [h.input])
  · rw [State.withScene, setMap_area, putSettings_area, h.area]; rfl
  · exact (putSettings_crosspoint s scene x).trans (by rw [h.crosspoint])
  · have zone : (s.withScene scene).zone z = { s.zone z with scene := scene.zones.get z } := putSettings_zone ..
    rw [zone, h.zone]
  · have panel : (s.withScene scene).panel n = (s.panel n).takeScene (scene.panels.get n) := putSettings_panel ..
    rw [panel, h.panel, Panel.takeScene]
    simp [Panel.initial]

theorem putScene_sameNotices (h : SetUp store Scene.factory s) (scene : Scene) : SameNotices s (s.putScene scene) := by
  have put : SameNotices s (s.putSettings scene) := ⟨rfl, rfl, rfl, rfl⟩
  rw [putScene_of_setUp h]
  exact put.trans (setMap_sameNotices _)

/-! ### What a start-up composes (R121 stages 7 and 8, R135) -/

section
variable (h : OnlyPlan s t)
include h

theorem OnlyPlan.gateTargetOf (i : Fin 24) : t.gateTargetOf i = s.gateTargetOf i := by
  obtain ⟨_, _, _, rfl⟩ := h; rfl

theorem OnlyPlan.liveOf (x : Fin 384) (send : Int) : t.liveOf x send = s.liveOf x send := by
  obtain ⟨_, _, _, rfl⟩ := h; rfl

theorem OnlyPlan.gainTargetOf (x : Fin 384) (p : Crosspoint) : t.gainTargetOf x p = s.gainTargetOf x p := by
  obtain ⟨_, _, _, rfl⟩ := h; rfl

theorem OnlyPlan.panel (n : Fin 8) : t.panel n = s.panel n := by
  obtain ⟨_, _, _, rfl⟩ := h; rfl

end

/-- R69: every live flag and gain target evaluated afresh is the one that the live setup gives. -/
theorem reevaluate_planComposed (s : State) : PlanComposed (s.reevaluate everyCrosspoint) := by
  intro x
  have live := relive_onlyPlan s everyCrosspoint
  have composed := recompose_onlyPlan (s.relive everyCrosspoint) everyCrosspoint
  have record : (s.reevaluate everyCrosspoint).crosspoint x
      = { (s.relive everyCrosspoint).crosspoint x with
          targetGain := (s.relive everyCrosspoint).gainTargetOf x ((s.relive everyCrosspoint).crosspoint x) } :=
    (updateCrosspoints_crosspoint ..).trans (if_pos rfl)
  have relived : (s.relive everyCrosspoint).crosspoint x
      = { s.crosspoint x with live := s.liveOf x (s.crosspoint x).send } :=
    (updateCrosspoints_crosspoint ..).trans (if_pos rfl)
  rw [record]
  refine ⟨?_, ?_⟩
  · rw [State.reevaluate, composed.liveOf, live.liveOf, relived]
  · exact (composed.gainTargetOf ..).symm

theorem reckon_planComposed (s : State) : PlanComposed s.reckon := reevaluate_planComposed _

section
variable (s : State)

theorem retargetStanding_input (i : Fin 24) :
    s.retargetStanding.input i = { s.input i with target := s.gateTargetOf i } := Table.get_mapIdx ..

theorem retargetStanding_area (k : Area) : s.retargetStanding.area k = s.area k := rfl
theorem retargetStanding_zone (z : Fin 16) : s.retargetStanding.zone z = s.zone z := rfl
theorem retargetStanding_panel (n : Fin 8) : s.retargetStanding.panel n = s.panel n := rfl
theorem retargetStanding_crosspoint (x : Fin 384) : s.retargetStanding.crosspoint x = s.crosspoint x := rfl
theorem retargetStanding_sameNotices : SameNotices s s.retargetStanding := ⟨rfl, rfl, rfl, rfl⟩

theorem retargetStanding_gateTargetOf (i : Fin 24) : s.retargetStanding.gateTargetOf i = s.gateTargetOf i :=
  gateTargetOf_congr (by rw [retargetStanding_input]) fun _ => rfl

theorem reevaluate_sends (which : Fin 384 → Bool) (x : Fin 384) :
    ((s.reevaluate which).crosspoint x).send = (s.crosspoint x).send
      ∧ ((s.reevaluate which).crosspoint x).activeGain = (s.crosspoint x).activeGain := by
  rw [reevaluate_crosspoint]
  exact ⟨rfl, rfl⟩

theorem reevaluate_sameNotices (which : Fin 384 → Bool) : SameNotices s (s.reevaluate which) := ⟨rfl, rfl, rfl, rfl⟩

/-- The two later stages of a recompute of everything leave its inputs, areas, zones and panels. -/
theorem reckon_onlyPlan : OnlyPlan (s.retime everyCrosspoint).retargetStanding s.reckon := reevaluate_onlyPlan ..

/-- R36, R121 stage 8: every input takes the gate-gain target of the settings in force. -/
theorem reckon_input (i : Fin 24) : s.reckon.input i = { s.input i with target := s.reckon.gateTargetOf i } := by
  have target : s.reckon.gateTargetOf i = (s.retime everyCrosspoint).gateTargetOf i := by
    rw [(reckon_onlyPlan s).gateTargetOf, retargetStanding_gateTargetOf]
  rw [target, (reckon_onlyPlan s).input, retargetStanding_input, (retime_onlyPlan s everyCrosspoint).input]

theorem reckon_area (k : Area) : s.reckon.area k = s.area k := by
  rw [(reckon_onlyPlan s).area, retargetStanding_area, (retime_onlyPlan s everyCrosspoint).area]

theorem reckon_zone (z : Fin 16) : s.reckon.zone z = s.zone z := by
  rw [(reckon_onlyPlan s).zone, retargetStanding_zone, (retime_onlyPlan s everyCrosspoint).zone]

theorem reckon_panel (n : Fin 8) : s.reckon.panel n = s.panel n := by
  rw [(reckon_onlyPlan s).panel, retargetStanding_panel, (retime_onlyPlan s everyCrosspoint).panel]

end

theorem reckon_sends (s : State) (x : Fin 384) :
    (s.reckon.crosspoint x).send = (s.crosspoint x).send
      ∧ (s.reckon.crosspoint x).activeGain = (s.crosspoint x).activeGain := by
  obtain ⟨_, send, _, active⟩ := retime_sameGains (s := s) (which := everyCrosspoint) (x := x) rfl
  obtain ⟨sends, gains⟩ := reevaluate_sends (s.retime everyCrosspoint).retargetStanding everyCrosspoint x
  rw [retargetStanding_crosspoint] at sends gains
  exact ⟨sends.trans send, gains.trans active⟩

theorem reckon_raises (s : State) : Raises s s.reckon (clampedNotices s.reckon fun _ => true) := by
  have timing : KeepsTiming (s.retime everyCrosspoint) s.reckon :=
    (retargetStanding_keepsTiming _).trans (reevaluate_keepsTiming ..)
  exact (retime_raises_later timing fun _ => rfl).then_same
    ((retargetStanding_sameNotices _).trans (reevaluate_sameNotices ..))

end Sys2Proof.Machine
end

section
/-! SUPPORT. R132, R135, R160: what a start-up leaves of the parts of the state, and the notices it raises. -/

namespace Sys2Proof.Machine

open Sys2Proof.Safety

/-! ### The stores loaded (R135, stages 1 and 2) -/

section
variable (s : State)

theorem raiseIncomplete_onlyNotices {α : Type} (record : Stored α) (n : Nat) :
    OnlyNotices s (s.raiseIncomplete record n) := by
  cases record with
  | valid => exact .refl s
  | incomplete => exact raise_onlyNotices ..

theorem raiseIncomplete_raises {α : Type} [DecidableEq α] (record : Stored α) (n : Nat) :
    Raises s (s.raiseIncomplete record n) (if record = .incomplete then [(.recordIncomplete, n, 0)] else []) := by
  cases record with
  | valid => exact SameNotices.refl s
  | incomplete => exact .raise ..

/-- R132: RECORD-INCOMPLETE for each record found INCOMPLETE. -/
def State.recordsNoticed (s : State) : State :=
  ((s.raiseIncomplete s.store.building 64).raiseIncomplete s.store.alarm 65).raiseIncomplete s.store.guard 66

theorem recordsNoticed_onlyNotices : OnlyNotices s s.recordsNoticed :=
  ((raiseIncomplete_onlyNotices ..).trans (raiseIncomplete_onlyNotices ..)).trans (raiseIncomplete_onlyNotices ..)

theorem loadStores_eq : ∃ q o, s.loadStores
    = { s with
        queue := q, overflow := o, stations := s.store.geometry.stations, reported := none,
        used := s.store.geometry.defaultTemp, defaultTemp := s.store.geometry.defaultTemp,
        climateStep := s.store.geometry.climateStep,
        zones := s.zones.mapIdx fun z x => { x with geometry := s.store.geometry.zones.get z,
                                                    levelInEffect := s.store.alarmSettings.levels.get z },
        panels := s.panels.mapIdx fun n p => { p with building := s.store.geometry.panels.get n },
        guard := s.store.guard.getD Guard.standIn,
        alarm := { AlarmUnit.initial with settings := s.store.alarmSettings } } := by
  obtain ⟨q, o, e⟩ := recordsNoticed_onlyNotices s
  refine ⟨q, o, ?_⟩
  have zones : (s.zones.mapIdx fun z x => ({ x with geometry := s.store.geometry.zones.get z } : Zone)).mapIdx
        (fun z x => { x with levelInEffect := s.store.alarmSettings.levels.get z })
      = s.zones.mapIdx fun z x => { x with geometry := s.store.geometry.zones.get z,
                                           levelInEffect := s.store.alarmSettings.levels.get z } :=
    Table.ext_get fun z => by simp only [Table.get_mapIdx]
  rw [State.loadStores, ← State.recordsNoticed, e, ← zones]
  rfl

theorem recordsNoticed_raises :
    Raises s s.recordsNoticed ((if s.store.building = .incomplete then [(.recordIncomplete, 64, 0)] else [])
      ++ (if s.store.alarm = .incomplete then [(.recordIncomplete, 65, 0)] else [])
      ++ (if s.store.guard = .incomplete then [(.recordIncomplete, 66, 0)] else [])) :=
  ((raiseIncomplete_raises ..).trans (raiseIncomplete_raises ..)).trans (raiseIncomplete_raises ..)

theorem loadStores_sameNotices : SameNotices s.recordsNoticed s.loadStores := ⟨rfl, rfl, rfl, rfl⟩

end

/-! ### The live setup at a start-up (R119, R121, R135 stages 3 and 4) -/

/-- R42, R65, R67, R113, R116: the parts that a scene governs as a start-up leaves them. -/
structure Started (store : Store) (scene : Scene) (s : State) : Prop where
  input : ∀ i, s.input i = { Input.initial with settings := scene.inputs.get i, target := s.gateTargetOf i }
  area : ∀ k, s.area k = { AreaUnit.initial with settings := scene.areas.get (areaIndex k),
                                                 joinedInto := scene.joins.get (areaIndex k) }
  send : ∀ x, (s.crosspoint x).send = scene.sends.get x
  active : ∀ x, (s.crosspoint x).activeGain = -1000
  zone : ∀ z, s.zone z = { Zone.initial with geometry := store.geometry.zones.get z, scene := scene.zones.get z,
                                             trim := (scene.zones.get z).trimDefault,
                                             levelInEffect := store.alarmSettings.levels.get z }
  panel : ∀ n, s.panel n = { Panel.initial with scene := scene.panels.get n, building := store.geometry.panels.get n }
  composed : PlanComposed s
  current : DelayTargetsCurrent s

variable {s t : State} {store : Store} {scene : Scene}

theorem putTrims_zone (s : State) (z : Fin 16) :
    (s.putTrims false).zone z = { s.zone z with trim := (s.zone z).scene.trimDefault } := Table.get_mapIdx ..

/-- R121, stages 6 to 8: the trims, and everything reckoned from the setup in force. -/
theorem SetUp.reckon (h : SetUp store scene s) : Started store scene (s.putTrims false).reckon where
  input i := by
    have input : (s.putTrims false).input i = s.input i := rfl
    rw [reckon_input, input, h.input]
  area k := (reckon_area _ k).trans (h.area k)
  send x := (reckon_sends _ x).1.trans (congrArg Crosspoint.send (h.crosspoint x))
  active x := (reckon_sends _ x).2.trans (congrArg Crosspoint.activeGain (h.crosspoint x))
  zone z := by rw [reckon_zone, putTrims_zone, h.zone]
  panel n := by
    have panel : (s.putTrims false).panel n = s.panel n := rfl
    rw [reckon_panel, panel, h.panel]
  composed := reckon_planComposed _
  current := reckon_current _

theorem OnlyNotices.started (h : OnlyNotices s t) (k : Started store scene s) : Started store scene t := by
  have current := h.keepsTiming.current k.current
  obtain ⟨_, _, rfl⟩ := h
  obtain ⟨input, area, send, active, zone, panel, composed, _⟩ := k
  exact ⟨input, area, send, active, zone, panel, composed, current⟩

/-- R86: a crosspoint that is STEADY at its delay target. -/
def Snapped (s : State) : Prop := ∀ x, (s.crosspoint x).snap = s.crosspoint x

theorem snapAll_crosspoint (s : State) (x : Fin 384) : s.snapAll.crosspoint x = (s.crosspoint x).snap :=
  updateCrosspoints_crosspoint ..

theorem snapAll_snapped (s : State) : Snapped s.snapAll := fun x => by rw [snapAll_crosspoint]; rfl

theorem Started.snapAll (h : Started store scene s) : Started store scene s.snapAll where
  input := h.input
  area := h.area
  send x := by rw [snapAll_crosspoint]; exact h.send x
  active x := by rw [snapAll_crosspoint]; exact h.active x
  zone := h.zone
  panel := h.panel
  composed x := by rw [snapAll_crosspoint]; exact h.composed x
  current := (snapAll_keepsTiming s).current h.current

/-- R135, stages 4 and 5: the delays snapped, and STARTUP. -/
theorem Started.startup (h : Started store scene s) (value : Int) :
    Started store scene (s.snapAll.raise .startup 0 value) ∧ Snapped (s.snapAll.raise .startup 0 value) :=
  ⟨(raise_onlyNotices ..).started h.snapAll, fun x => by rw [raise_crosspoint]; exact snapAll_snapped s x⟩

theorem areaIndex_surjective : ∀ k : Fin 4, ∃ l, areaIndex l = k
  | 0 => ⟨.a, rfl⟩
  | 1 => ⟨.b, rfl⟩
  | 2 => ⟨.c, rfl⟩
  | 3 => ⟨.d, rfl⟩

/-- R119: the live setup after a start-up is the scene it started from. -/
theorem Started.liveSetup (h : Started store scene s) : s.liveSetup scene.label = scene := by
  have inputs : s.inputs.mapIdx (fun _ x => x.settings) = scene.inputs :=
    Table.ext_get fun i => (Table.get_mapIdx ..).trans (congrArg Input.settings (h.input i))
  have zones : s.zones.mapIdx (fun _ z => z.scene) = scene.zones :=
    Table.ext_get fun z => (Table.get_mapIdx ..).trans (congrArg Zone.scene (h.zone z))
  have sends : s.crosspoints.mapIdx (fun _ p => p.send) = scene.sends :=
    Table.ext_get fun x => (Table.get_mapIdx ..).trans (h.send x)
  have areas : s.areas.mapIdx (fun _ u => u.settings) = scene.areas := Table.ext_get fun k => by
    obtain ⟨l, rfl⟩ := areaIndex_surjective k
    exact (Table.get_mapIdx ..).trans (congrArg AreaUnit.settings (h.area l))
  have joins : s.areas.mapIdx (fun _ u => u.joinedInto) = scene.joins := Table.ext_get fun k => by
    obtain ⟨l, rfl⟩ := areaIndex_surjective k
    exact (Table.get_mapIdx ..).trans (congrArg AreaUnit.joinedInto (h.area l))
  have panels : s.panels.mapIdx (fun _ p => p.scene) = scene.panels :=
    Table.ext_get fun n => (Table.get_mapIdx ..).trans (congrArg Panel.scene (h.panel n))
  rw [State.liveSetup, inputs, zones, sends, areas, joins, panels]

/-! ### The start-up scene and the notices (R135) -/

/-- R135, stage 3: the scene that a start-up recalls is the one of the VALID slot that a VALID building record names. -/
theorem startupRecall_iff {store : Store} {k : Fin 64} {scene : Scene} :
    store.startupRecall = some (k, scene) ↔ StartsFrom store k scene := by
  unfold Store.startupRecall StartsFrom
  cases store.building with
  | incomplete => simp
  | valid b =>
    cases named : b.startupScene with
    | none => simp [named]
    | some l =>
      have only (scene : Scene) : (∃ b', Stored.valid b = .valid b' ∧ b'.startupScene = some k
          ∧ store.slots.get k = .valid scene) ↔ l = k ∧ store.slots.get l = .valid scene := by
        constructor
        · rintro ⟨_, ⟨⟩, start, slot⟩
          obtain rfl : l = k := Option.some.inj (named.symm.trans start)
          exact ⟨rfl, slot⟩
        · rintro ⟨rfl, slot⟩
          exact ⟨b, rfl, named, slot⟩
      rw [only]
      simp only [named]
      cases slot : store.slots.get l <;> simp

/-- R121, stages 6 to 8. -/
def State.composed (s : State) : State := (s.putTrims false).reckon

theorem composed_raises (s : State) : Raises s s.composed (clampedNotices s.composed fun _ => true) := by
  have trims : SameNotices s (s.putTrims false) := ⟨rfl, rfl, rfl, rfl⟩
  exact trims.then_raises (reckon_raises _)

theorem snapAll_sameNotices (s : State) : SameNotices s s.snapAll := ⟨rfl, rfl, rfl, rfl⟩

/-- The notices of stages 3 and 5. -/
def recallNotices : Option (Fin 64) → List (NoticeKind × Nat × Int)
  | some k => [(.sceneRecalled, k.val, 3), (.startup, 0, (k.val : Int))]
  | none => [(.startup, 0, -1)]

theorem startSetup_of_recall {k : Fin 64} (h : s.store.startupRecall = some (k, scene)) :
    s.startSetup = (((s.putScene scene).composed.raise .sceneRecalled k.val 3).snapAll).raise .startup 0 k.val := by
  rw [State.startSetup, h]
  rfl

theorem startSetup_of_none (h : s.store.startupRecall = none) :
    s.startSetup = (s.composed.snapAll).raise .startup 0 (-1) := by
  rw [State.startSetup, h]
  rfl

/-- R135: what stages 3 to 5 leave is started from the scene recalled, or else from the factory live setup. -/
theorem startSetup_started (h : SetUp store Scene.factory s) :
    Started store ((s.store.startupRecall.map Prod.snd).getD Scene.factory) s.startSetup ∧ Snapped s.startSetup := by
  cases recalled : s.store.startupRecall with
  | none =>
    rw [startSetup_of_none recalled]
    exact h.reckon.startup _
  | some r =>
    obtain ⟨k, scene⟩ := r
    rw [startSetup_of_recall recalled]
    exact ((raise_onlyNotices ..).started (putScene_setUp h scene).reckon).startup _

/-- R18, R121, R135: the notices of stages 3 to 5. -/
theorem startSetup_raises (h : SetUp store Scene.factory s) :
    Raises s s.startSetup (clampedNotices s.startSetup (fun _ => true)
      ++ recallNotices (s.store.startupRecall.map Prod.fst)) := by
  have later {u : State} (n : Nat) (v : Int) : KeepsTiming u (u.snapAll.raise .startup n v) :=
    (snapAll_keepsTiming u).trans (raise_keepsTiming ..)
  cases recalled : s.store.startupRecall with
  | none =>
    rw [startSetup_of_none recalled, clampedNotices_congr (fun _ => rfl) fun x => ((later _ _).stands x).sum]
    exact ((composed_raises s).then_same (snapAll_sameNotices _)).trans (.raise ..)
  | some r =>
    obtain ⟨k, scene⟩ := r
    have put := (putScene_sameNotices h scene).then_raises (composed_raises _)
    have timing := (raise_keepsTiming (s.putScene scene).composed .sceneRecalled k.val 3).trans (later 0 (k.val : Int))
    rw [startSetup_of_recall recalled, clampedNotices_congr (fun _ => rfl) fun x => (timing.stands x).sum]
    exact (((put.trans (.raise ..)).then_same (snapAll_sameNotices _)).trans (.raise ..)).of_eq
      (List.append_assoc ..)

/-! ### A queue filled from nothing (R160) -/

/-- R160: subscribed notices wait in their order up to 32, and one more sets the overflow indicator. -/
theorem afterNotices_of_subscribed : ∀ {notices : List (NoticeKind × Nat × Int)} {s : State},
    (∀ n ∈ notices, s.subscribed.contains n.1 = true) → s.queue.length ≤ 32 →
      (afterNotices s notices).queue
          = (s.queue ++ notices.map fun n => (⟨n.1, s.stamp, n.2.1, n.2.2⟩ : Notice)).take 32
        ∧ (afterNotices s notices).overflow = (s.overflow || decide (32 < s.queue.length + notices.length))
  | [], s, _, bounded => by
    refine ⟨?_, ?_⟩
    · rw [List.map_nil, List.append_nil, List.take_of_length_le bounded]; rfl
    · rw [List.length_nil, decide_eq_false (by omega), Bool.or_false]; rfl
  | n :: rest, s, subscribed, bounded => by
    have taken := subscribed n List.mem_cons_self
    have others : ∀ m ∈ rest, s.subscribed.contains m.1 = true := fun m mem =>
      subscribed m (List.mem_cons_of_mem _ mem)
    have first : afterNotices s (n :: rest) = afterNotices (s.raise n.1 n.2.1 n.2.2) rest := rfl
    by_cases room : s.queue.length < 32
    · obtain ⟨queue, overflow⟩ := afterNotices_of_subscribed (notices := rest) (s := s.raise n.1 n.2.1 n.2.2)
        (by rw [raise_room s _ _ taken room]; exact others)
        (by rw [raise_room s _ _ taken room]; simpa using room)
      rw [first, queue, overflow, raise_room s _ _ taken room]
      refine ⟨by simp, ?_⟩
      rw [List.length_append, List.length_cons, List.length_cons, List.length_nil, Nat.add_assoc,
        Nat.add_comm (0 + 1), Nat.zero_add]
    · obtain ⟨queue, overflow⟩ := afterNotices_of_subscribed (notices := rest) (s := s.raise n.1 n.2.1 n.2.2)
        (by rw [raise_full s _ _ taken room]; exact others)
        (by rw [raise_full s _ _ taken room]; exact bounded)
      have full : s.queue.length = 32 := by omega
      rw [first, queue, overflow, raise_full s _ _ taken room]
      refine ⟨?_, ?_⟩
      · rw [List.take_left' full, List.take_left' full]
      · rw [List.length_cons, decide_eq_true (show 32 < s.queue.length + (rest.length + 1) by omega)]
        simp

end Sys2Proof.Machine
end

section
/-! PROOFS. O11: the start-up from the stored contents. -/

namespace Sys2Proof.Machine

open Sys2Proof.Safety

variable (s : State)

/-- R135: the part from which a start-up sets out. -/
def State.unstarted (s : State) : State := State.cold s.store s.pending true

theorem unstarted_input (i : Fin 24) : s.unstarted.input i = Input.initial := Table.get_replicate ..
theorem unstarted_area (k : Area) : s.unstarted.area k = AreaUnit.initial := Table.get_replicate ..
theorem unstarted_crosspoint (x : Fin 384) : s.unstarted.crosspoint x = Crosspoint.initial 576 := Table.get_replicate ..
theorem unstarted_zone (z : Fin 16) : s.unstarted.zone z = Zone.initial := Table.get_replicate ..
theorem unstarted_panel (n : Fin 8) : s.unstarted.panel n = Panel.initial := Table.get_replicate ..

/-- R135, stages 1 and 2: the factory live setup under the geometry and the levels of the stores. -/
theorem loadStores_setUp : SetUp s.store Scene.factory s.unstarted.loadStores := by
  obtain ⟨_, _, e⟩ := loadStores_eq s.unstarted
  rw [e]
  refine ⟨fun i => ?_, fun k => ?_, fun x => ?_, fun z => ?_, fun n => ?_⟩
  · exact (unstarted_input s i).trans (by rw [factory_inputs]; rfl)
  · exact (unstarted_area s k).trans (by rw [factory_areas, factory_joins]; rfl)
  · exact (unstarted_crosspoint s x).trans (by rw [factory_sends]; rfl)
  · refine (Table.get_mapIdx ..).trans ?_
    rw [← State.zone, unstarted_zone, factory_zones]
    rfl
  · refine (Table.get_mapIdx ..).trans ?_
    rw [← State.panel, unstarted_panel, factory_panels]
    rfl

theorem startSetup_onlySetup : OnlySetup s s.startSetup := by
  have trims := (putTrims_onlySetup s false).trans (reckon_onlyMixing _).setup
  have raised (u : State) (v : Int) : OnlySetup u (u.snapAll.raise .startup 0 v) :=
    (snapAll_onlyPlan u).mixing.setup.trans (raise_onlyNotices ..).plan.mixing.setup
  unfold State.startSetup
  split
  · exact (recall_onlySetup ..).trans (raised ..)
  · exact trims.trans (raised ..)

/-- R135: what a start-up takes from the stores, besides the parts that a scene governs. -/
theorem startUp_eq : ∃ i a c z p q o, s.startUp
    = { s.unstarted with
        inputs := i, areas := a, crosspoints := c, zones := z, panels := p, queue := q, overflow := o,
        stations := s.store.geometry.stations, reported := none, used := s.store.geometry.defaultTemp,
        defaultTemp := s.store.geometry.defaultTemp, climateStep := s.store.geometry.climateStep,
        guard := s.store.guard.getD Guard.standIn,
        alarm := { AlarmUnit.initial with settings := s.store.alarmSettings } } := by
  obtain ⟨_, _, loaded⟩ := loadStores_eq s.unstarted
  obtain ⟨i, r, c, z, p, q, o, e⟩ := startSetup_onlySetup s.unstarted.loadStores
  refine ⟨i, r, c, z, p, q, o, ?_⟩
  rw [loaded] at e
  exact (congrArg State.startSetup loaded).trans e

theorem loadStores_store : s.unstarted.loadStores.store = s.store := by
  obtain ⟨_, _, loaded⟩ := loadStores_eq s.unstarted
  rw [loaded]
  rfl

theorem startUp_started :
    Started s.store ((s.store.startupRecall.map Prod.snd).getD Scene.factory) s.startUp ∧ Snapped s.startUp := by
  have started := startSetup_started (loadStores_setUp s)
  rwa [loadStores_store] at started

/-! ### The notices of a start-up (R132, R135, R160) -/

theorem startUp_raises : Raises s.unstarted s.startUp
    (startupNotices s.store s.startUp (s.store.startupRecall.map Prod.fst)) := by
  have loaded := (recordsNoticed_raises s.unstarted).then_same (loadStores_sameNotices _)
  have setup := startSetup_raises (loadStores_setUp s)
  rw [loadStores_store] at setup
  refine (loaded.trans setup).of_eq ?_
  rw [← List.append_assoc]
  unfold startupNotices recallNotices
  cases s.store.startupRecall <;> rfl

theorem startupNotices_ne_listChange {store : Store} {t : State} {recalled : Option (Fin 64)}
    {n : NoticeKind × Nat × Int} (mem : n ∈ startupNotices store t recalled) : n.1 ≠ .listChange := by
  have clamped : ∀ m ∈ clampedNotices t fun _ => true, m.1 ≠ .listChange := by
    simp only [clampedNotices, List.mem_map]
    rintro _ ⟨x, _, rfl⟩
    simp
  have record {c : Prop} [Decidable c] (v : Nat) :
      ∀ m ∈ (if c then [(NoticeKind.recordIncomplete, v, (0 : Int))] else []), m.1 ≠ .listChange := by
    split <;> simp
  rw [startupNotices.eq_def] at mem
  simp only [List.mem_append] at mem
  obtain (((mem | mem) | mem) | mem) | mem := mem
  · exact record _ n mem
  · exact record _ n mem
  · exact record _ n mem
  · exact clamped n mem
  · cases recalled with
    | none => rw [List.mem_singleton.1 mem]; simp
    | some k =>
      simp only [List.mem_cons, List.not_mem_nil, or_false] at mem
      rcases mem with rfl | rfl <;> simp

theorem unstarted_subscribed (k : NoticeKind) : k ∈ s.unstarted.subscribed ↔ k ≠ .listChange := by
  cases k <;> simp [State.unstarted, State.cold, NoticeKind.subscribedByDefault]

/-- R160: the queue after a start-up holds its first 32 notices. -/
theorem startUp_queue :
    s.startUp.queue = ((startupNotices s.store s.startUp (s.store.startupRecall.map Prod.fst)).map fun n =>
        (⟨n.1, 0, n.2.1, n.2.2⟩ : Notice)).take 32
      ∧ s.startUp.overflow
        = decide (32 < (startupNotices s.store s.startUp (s.store.startupRecall.map Prod.fst)).length) := by
  obtain ⟨queue, overflow⟩ := (startUp_raises s).notified
  obtain ⟨filled, flagged⟩ := afterNotices_of_subscribed (s := s.unstarted)
    (notices := startupNotices s.store s.startUp (s.store.startupRecall.map Prod.fst))
    (fun n mem => List.contains_iff_mem.2 ((unstarted_subscribed s n.1).2 (startupNotices_ne_listChange mem)))
    (Nat.zero_le _)
  refine ⟨queue.trans filled, (overflow.trans flagged).trans ?_⟩
  rw [show s.unstarted.queue.length = 0 from rfl, Nat.zero_add]
  rfl

/-- The slot recalled is the one that the building record and its slot name. -/
theorem recalled_eq {store : Store} {recalled : Option (Fin 64)}
    (h : match recalled with
      | some k => ∃ scene, StartsFrom store k scene
      | none => ∀ k scene, ¬ StartsFrom store k scene) : recalled = store.startupRecall.map Prod.fst := by
  cases found : store.startupRecall with
  | none =>
    cases recalled with
    | none => rfl
    | some k =>
      obtain ⟨scene, starts⟩ := h
      exact nomatch found.symm.trans (startupRecall_iff.2 starts)
  | some r =>
    have starts : StartsFrom store r.1 r.2 := startupRecall_iff.1 found
    cases recalled with
    | none => exact absurd starts (h r.1 r.2)
    | some k =>
      obtain ⟨scene, named⟩ := h
      have same := found.symm.trans (startupRecall_iff.2 named)
      rw [Option.some.inj same]
      rfl

/-- R135: the scene in force after a start-up is the one it recalled. -/
theorem startUp_liveSetup {k : Fin 64} {scene : Scene} (starts : StartsFrom s.store k scene) :
    s.startUp.liveSetup scene.label = scene := by
  have started := (startUp_started s).1
  rw [startupRecall_iff.2 starts] at started
  exact started.liveSetup

theorem startUp_liveSetup_factory (none : ∀ k scene, ¬ StartsFrom s.store k scene) :
    s.startUp.liveSetup [] = Scene.factory := by
  have started := (startUp_started s).1
  rw [Option.map_eq_none_iff.1 (recalled_eq (recalled := Option.none) none).symm] at started
  exact started.liveSetup

/-- R10, R11, R114: the live geometry is the one of the stores. -/
theorem startUp_geometry {b : Building} (h : s.store.geometry = b) :
    s.startUp.stations = b.stations ∧ s.startUp.defaultTemp = b.defaultTemp ∧ s.startUp.climateStep = b.climateStep
      ∧ (∀ z, (s.startUp.zone z).geometry = b.zones.get z) ∧ ∀ n, (s.startUp.panel n).building = b.panels.get n := by
  obtain ⟨_, _, _, _, _, _, _, e⟩ := startUp_eq s
  have started := (startUp_started s).1
  rw [← h]
  exact ⟨congrArg State.stations e, congrArg State.defaultTemp e, congrArg State.climateStep e,
    fun z => congrArg Zone.geometry (started.zone z), fun n => congrArg Panel.building (started.panel n)⟩

/-! ### The start-up of a part as it leaves manufacture (R133, log 3) -/

section
variable {s} {t : State}

theorem Started.gateTargetOf_factory (h : Started Store.factory Scene.factory t) (i : Fin 24) :
    t.gateTargetOf i = -1000 := by
  have off : (t.input i).settings.mode = .off := by rw [h.input, factory_inputs]; rfl
  rw [State.gateTargetOf, off]

theorem Started.input_factory (h : Started Store.factory Scene.factory t) (i : Fin 24) : t.input i = Input.initial := by
  rw [h.input, h.gateTargetOf_factory, factory_inputs]
  rfl

theorem Started.area_factory (h : Started Store.factory Scene.factory t) (k : Area) :
    t.area k = AreaUnit.initial := by
  rw [h.area, factory_areas, factory_joins]
  rfl

theorem Started.zone_factory (h : Started Store.factory Scene.factory t) (z : Fin 16) : t.zone z = Zone.initial := by
  have geometry : Store.factory.geometry.zones.get z = ZoneGeometry.factory := Table.get_replicate ..
  have level : Store.factory.alarmSettings.levels.get z = 0 := Table.get_replicate ..
  rw [h.zone, geometry, level, factory_zones]
  rfl

theorem Started.panel_factory (h : Started Store.factory Scene.factory t) (n : Fin 8) :
    t.panel n = Panel.initial := by
  have building : Store.factory.geometry.panels.get n = PanelBuilding.factory := Table.get_replicate ..
  rw [h.panel, building, factory_panels]
  rfl

/-- R16, R17: without a station every delay target is the factory precedence offset. -/
theorem Started.delaySumOf_factory (h : Started Store.factory Scene.factory t) (x : Fin 384) :
    t.delaySumOf x = 576 := by
  simp [State.delaySumOf, State.talker, h.input_factory, h.zone_factory, delaySum, geometricTerm, Input.initial,
    InputSettings.factory, Zone.initial, ZoneGeometry.factory]

theorem Started.crosspoint_factory (h : Started Store.factory Scene.factory t) (snapped : Snapped t) (x : Fin 384) :
    t.crosspoint x = Crosspoint.initial 576 := by
  obtain ⟨live, target⟩ := h.composed x
  obtain ⟨delay, clamp⟩ := h.current x
  have dead : (t.crosspoint x).live = false := by
    rw [live, State.liveOf, h.input_factory]
    rfl
  have floor : (t.crosspoint x).targetGain = -1000 := by
    rw [target, State.gainTargetOf, dead]
    rfl
  have send : (t.crosspoint x).send = -1000 := (h.send x).trans (factory_sends x)
  rw [h.delaySumOf_factory] at delay clamp
  have unclamped : (t.crosspoint x).clamp = false := by simpa using clamp
  calc t.crosspoint x = (t.crosspoint x).snap := (snapped x).symm
    _ = { live := (t.crosspoint x).live, send := (t.crosspoint x).send, targetGain := (t.crosspoint x).targetGain,
          activeGain := (t.crosspoint x).activeGain, targetDelay := (t.crosspoint x).targetDelay,
          activeDelay := (t.crosspoint x).targetDelay, move := none, pendingDelay := none,
          clamp := (t.crosspoint x).clamp } := rfl
    _ = Crosspoint.initial 576 := by rw [dead, floor, send, h.active, delay, unclamped]; rfl

theorem Started.clampedNotices_factory (h : Started Store.factory Scene.factory t) :
    clampedNotices t (fun _ => true) = [] := by
  simp [clampedNotices, h.delaySumOf_factory]

end

/-- R133, log 3: from the factory stored contents a start-up leaves the reset state. -/
theorem startUp_factory (factory : s.store = Store.factory) :
    s.startUp = { State.reset with pending := s.pending } := by
  obtain ⟨started, snapped⟩ := startUp_started s
  obtain ⟨queue, overflow⟩ := startUp_queue s
  obtain ⟨_, _, _, _, _, _, _, e⟩ := startUp_eq s
  have none : s.store.startupRecall = none := by rw [factory]; rfl
  rw [none, factory] at started
  have notices : startupNotices s.store s.startUp (s.store.startupRecall.map Prod.fst) = [(.startup, 0, -1)] := by
    rw [startupNotices.eq_def, started.clampedNotices_factory, none, factory]
    rfl
  rw [notices] at queue overflow
  have inputs : s.startUp.inputs = Table.replicate 24 Input.initial := Table.ext_get fun i =>
    (started.input_factory i).trans (Table.get_replicate ..).symm
  have areas : s.startUp.areas = Table.replicate 4 AreaUnit.initial := Table.ext_get fun k => by
    obtain ⟨l, rfl⟩ := areaIndex_surjective k
    exact (started.area_factory l).trans (Table.get_replicate ..).symm
  have crosspoints : s.startUp.crosspoints = Table.replicate 384 (Crosspoint.initial 576) := Table.ext_get fun x =>
    (started.crosspoint_factory snapped x).trans (Table.get_replicate ..).symm
  have zones : s.startUp.zones = Table.replicate 16 Zone.initial := Table.ext_get fun z =>
    (started.zone_factory z).trans (Table.get_replicate ..).symm
  have panels : s.startUp.panels = Table.replicate 8 Panel.initial := Table.ext_get fun n =>
    (started.panel_factory n).trans (Table.get_replicate ..).symm
  rw [e] at inputs areas crosspoints zones panels queue overflow ⊢
  subst inputs areas crosspoints zones panels queue overflow
  rw [State.unstarted, factory]
  rfl

end Sys2Proof.Machine

namespace Sys2Proof.Proofs

open Sys2Proof Sys2Proof.Machine Sys2Proof.Safety

/-- Settles O11: the parts that a scene governs are `Started` from the scene recalled, or from the factory live setup;
the rest is read off the stores (`startUp_eq`), and the notices are those of `startUp_raises`. -/
theorem powerOnStartsThePartFromItsStores : Obligations.PowerOnStartsThePartFromItsStores := by
  refine ⟨fun s => ?_, fun s factory => ?_⟩
  · obtain ⟨started, snapped⟩ := startUp_started s
    obtain ⟨_, _, _, _, _, _, _, e⟩ := startUp_eq s
    have guard : s.startUp.guard = s.store.guard.getD Guard.standIn := congrArg State.guard e
    have alarm : s.startUp.alarm = { AlarmUnit.initial with settings := s.store.alarmSettings } :=
      congrArg State.alarm e
    refine ⟨s.startUp, rfl, congrArg State.powered e, (congrArg State.store e :), (congrArg State.pending e :),
      congrArg State.control e, congrArg State.safety e, congrArg State.stamp e, congrArg State.restartAccepted e,
      congrArg State.latch e, congrArg State.operation e, fun k => ?subscribed, fun recalled from_ => ?notices,
      fun k scene => startUp_liveSetup s, startUp_liveSetup_factory s, started.composed, fun i => ?targets,
      started.current, ?state, ?cause, ?timer, ?faultCause, ?actionTaken, congrArg State.reported e,
      ?used, congrArg (·.key.accepted) e, fun b valid => ?geometry, fun incomplete => ?noGeometry,
      fun g valid => ?guard, fun incomplete => ?noGuard, fun x valid => ?alarm, fun incomplete => ?noAlarm,
      fun k => ?areas, fun i => ?inputs, fun x => ?crosspoints, fun z => ?zones, fun n => ?panels⟩
    case subscribed =>
      have subscribed : s.startUp.subscribed = s.unstarted.subscribed := (congrArg State.subscribed e :)
      rw [subscribed]
      exact unstarted_subscribed s k
    case notices => rw [recalled_eq from_]; exact startUp_queue s
    case targets => exact congrArg Input.target (started.input i)
    case state => rw [alarm]; rfl
    case cause => rw [alarm]; rfl
    case timer => rw [alarm]; rfl
    case faultCause => rw [alarm]; rfl
    case actionTaken => rw [alarm]; rfl
    case used => exact (congrArg State.used e).trans (congrArg State.defaultTemp e).symm
    case geometry => exact startUp_geometry s (by rw [Store.geometry, valid]; rfl)
    case noGeometry =>
      obtain ⟨stations, temperature, climateStep, zones, panels⟩ :=
        startUp_geometry s (b := Building.factory) (by rw [Store.geometry, incomplete]; rfl)
      exact ⟨fun n => by rw [State.station, stations]; exact Table.get_replicate .., temperature, climateStep,
        fun z => (zones z).trans (Table.get_replicate ..), fun n => (panels n).trans (Table.get_replicate ..)⟩
    case guard => rw [guard, valid]; rfl
    case noGuard => rw [guard, incomplete]; rfl
    case alarm => rw [alarm, Store.alarmSettings, valid]; rfl
    case noAlarm =>
      rw [alarm, Store.alarmSettings, incomplete]
      exact ⟨fun z => Table.get_replicate .., rfl, rfl, rfl, rfl⟩
    case areas => rw [started.area]; exact ⟨rfl, rfl, rfl⟩
    case inputs => rw [started.input]; exact ⟨rfl, rfl, rfl, rfl, rfl, rfl⟩
    case crosspoints =>
      exact ⟨started.active x, (congrArg Crosspoint.move (snapped x)).symm,
        (congrArg Crosspoint.pendingDelay (snapped x)).symm, (congrArg Crosspoint.activeDelay (snapped x)).symm⟩
    case zones => rw [started.zone]; exact ⟨rfl, rfl, rfl⟩
    case panels => rw [started.panel]; exact ⟨rfl, rfl, rfl, rfl, rfl, rfl, rfl⟩
  · exact congrArg Host.Outcome.next (startUp_factory s factory)

end Sys2Proof.Proofs
end

section
/-! PROOFS. O29: victim order. -/

namespace Sys2Proof.Machine

open Sys2Proof.Safety

variable {s : State}

theorem beforeInVictimOrder_iff {e f : Entry} :
    s.beforeInVictimOrder e f = true ↔
      (s.holds e = true ∧ s.holds f = false) ∨ (s.holds e = s.holds f ∧ e.priority < f.priority) := by
  unfold State.beforeInVictimOrder
  cases s.holds e <;> cases s.holds f <;> simp

theorem firstVictim_cons (e : Entry) (rest : List Entry) :
    (rest = [] ∧ s.firstVictim (e :: rest) = some e)
      ∨ ∃ f, s.firstVictim rest = some f
        ∧ s.firstVictim (e :: rest) = if s.beforeInVictimOrder f e then some f else some e := by
  cases rest with
  | nil => exact .inl ⟨rfl, rfl⟩
  | cons g rest =>
    refine .inr ?_
    have some : ∃ f, s.firstVictim (g :: rest) = some f := by
      unfold State.firstVictim
      split
      · exact ⟨_, rfl⟩
      · split <;> exact ⟨_, rfl⟩
    obtain ⟨f, first⟩ := some
    refine ⟨f, first, ?_⟩
    rw [State.firstVictim.eq_2, first]

/-- Only an empty list has no first victim. -/
theorem firstVictim_eq_none_iff {entries : List Entry} : s.firstVictim entries = none ↔ entries = [] := by
  cases entries with
  | nil => simp [State.firstVictim]
  | cons e rest =>
    rcases firstVictim_cons (s := s) e rest with ⟨_, first⟩ | ⟨f, _, first⟩
    · simp [first]
    · rw [first]
      split <;> simp

/-- R49: an entry stands before those older than it and those younger than it. -/
structure StandsFirst (s : State) (e : Entry) (older younger : List Entry) : Prop where
  holding : ∀ f ∈ older ++ younger, s.holds f = true → s.holds e = true
  below_older : ∀ f ∈ older, s.holds f = s.holds e → e.priority < f.priority
  below_younger : ∀ f ∈ younger, s.holds f = s.holds e → e.priority ≤ f.priority

/-- An entry that comes before an older one stands before that one too. -/
theorem StandsFirst.cons {e f : Entry} {older younger : List Entry} (h : StandsFirst s f older younger)
    (before : s.beforeInVictimOrder f e = true) : StandsFirst s f (e :: older) younger := by
  obtain ⟨holding, below_older, below_younger⟩ := h
  rw [beforeInVictimOrder_iff] at before
  refine ⟨fun g mem holds => ?_, fun g mem same => ?_, below_younger⟩
  · rcases List.mem_cons.1 mem with rfl | mem
    · exact before.elim And.left fun b => b.1.trans holds
    · exact holding g mem holds
  · rcases List.mem_cons.1 mem with rfl | mem
    · rcases before with ⟨f_holds, e_open⟩ | ⟨_, lower⟩
      · simp [f_holds, e_open] at same
      · exact lower
    · exact below_older g mem same

/-- The head of a list stands first where the first of the others does not come before it. -/
theorem StandsFirst.head {e f : Entry} {older younger : List Entry} (h : StandsFirst s f older younger)
    (behind : ¬ s.beforeInVictimOrder f e = true) : StandsFirst s e [] (older ++ f :: younger) := by
  obtain ⟨holding, below_older, below_younger⟩ := h
  rw [beforeInVictimOrder_iff, not_or] at behind
  obtain ⟨f_not_first, f_not_lower⟩ := behind
  have head_holds (holds : s.holds f = true) : s.holds e = true := by
    by_contra shut
    exact f_not_first ⟨holds, by simpa using shut⟩
  have others {g : Entry} (mem : g ∈ older ++ f :: younger) : g = f ∨ g ∈ older ++ younger := by
    simp only [List.mem_append, List.mem_cons] at mem ⊢
    tauto
  have below_f {g : Entry} (mem : g ∈ older ++ f :: younger) (same : s.holds g = s.holds f) :
      f.priority ≤ g.priority := by
    rcases others mem with rfl | mem
    · exact le_rfl
    · exact (List.mem_append.1 mem).elim (fun mem => (below_older g mem same).le) fun mem => below_younger g mem same
  have f_holds {g : Entry} (mem : g ∈ older ++ f :: younger) (holds : s.holds g = true) : s.holds f = true :=
    (others mem).elim (fun same => same ▸ holds) fun mem => holding g mem holds
  refine ⟨fun g mem holds => head_holds (f_holds mem holds), nofun, fun g mem same => ?_⟩
  have same_f : s.holds g = s.holds f := by
    cases f_state : s.holds f with
    | true => exact same.trans (head_holds f_state)
    | false => exact Bool.eq_false_iff.2 fun holds => Bool.false_ne_true (f_state.symm.trans (f_holds mem holds))
  exact (not_lt.1 fun lower => f_not_lower ⟨same_f.symm.trans same, lower⟩).trans (below_f mem same_f)

theorem firstVictim_standsFirst {e : Entry} : ∀ {entries : List Entry}, s.firstVictim entries = some e →
    ∃ older younger, entries = older ++ e :: younger ∧ StandsFirst s e older younger
  | [], first => nomatch first
  | g :: rest, first => by
    rcases firstVictim_cons (s := s) g rest with ⟨alone, found⟩ | ⟨f, found, next⟩
    · obtain rfl : g = e := Option.some.inj (found.symm.trans first)
      exact ⟨[], [], by rw [alone]; rfl, nofun, nofun, nofun⟩
    · obtain ⟨older, younger, split, stands⟩ := firstVictim_standsFirst found
      rw [next] at first
      split at first
      · next before =>
        obtain rfl := Option.some.inj first
        exact ⟨g :: older, younger, by rw [split]; rfl, stands.cons before⟩
      · next behind =>
        obtain rfl := Option.some.inj first
        exact ⟨[], rest, rfl, split ▸ stands.head behind⟩

end Sys2Proof.Machine

namespace Sys2Proof.Proofs

open Sys2Proof Sys2Proof.Machine Sys2Proof.Safety

/-- Settles O29, by induction on the list (`firstVictim_standsFirst`): the first of the younger entries gives way to
the head, or stands before it too. -/
theorem victimIsTheFirstInOrder : Obligations.VictimIsTheFirstInOrder := fun _ _ _ first => by
  obtain ⟨older, younger, split, stands⟩ := firstVictim_standsFirst first
  exact ⟨older, younger, split, stands.holding, stands.below_older, stands.below_younger⟩

end Sys2Proof.Proofs
end

section
/-! SUPPORT. What a request and a command can be: the changes to the part's state that each makes, said once. A relation of
states that each change meets is met by every command but a start-up, a loss of power and a frame boundary. -/

namespace Sys2Proof.Machine

open Sys2Proof.Safety

/-! ### Requests (Tables 9-3 and 9-4) -/

/-- Every change that a request can make meets a relation of the states before and after. -/
structure RequestsMeet (R : State → State → Prop) : Prop where
  refl : ∀ s, R s s
  fetched : ∀ s queue overflow, R s { s with queue, overflow }
  subscribed : ∀ s subscribed, R s { s with subscribed }
  restartAccepted : ∀ s restartAccepted, R s { s with restartAccepted }
  latch : ∀ s latch, R s { s with latch }
  changeInput : ∀ s i new, R s (s.changeInput i new)
  clearReversals : ∀ s i, R s (s.setInput i { s.input i with reversals := 0 })
  changeZone : ∀ s z new, R s (s.changeZone z new)
  changeZoneGeometry : ∀ s z new, R s (s.changeZoneGeometry z new)
  changeStation : ∀ s n new, R s (s.changeStation n new)
  takeClimate : ∀ s parts, R s (s.takeClimate parts)
  changeSends : ∀ s i first values, R s (s.changeSends i first values)
  snapToTargets : ∀ s which, R s (s.snapToTargets which)
  changeAreaSettings : ∀ s k new, R s (s.changeAreaSettings k new)
  joinArea : ∀ s x y, s.mayJoin x y = true → R s (s.joinArea x y)
  splitArea : ∀ s x y, (s.area x).joinedInto = some y → R s (s.splitArea x y)
  changePause : ∀ s k paused, R s (s.changePause k paused)
  setPanel : ∀ s n p, R s (s.setPanel n p)
  recalled : ∀ s k scene mode keepTrims cause, s.slot k = .valid scene → R s (s.recall k scene mode keepTrims cause)
  acceptStore : ∀ s op, (∀ k scene, op = .scst k scene → ∃ label, scene = s.liveSetup label) → R s (s.acceptStore op)
  timer : ∀ s timer, R s { s with alarm := { s.alarm with timer } }
  enterAlarmState : ∀ s state, R s (s.enterAlarmState state)
  enterArmed : ∀ s, R s s.enterArmed
  enterFault : ∀ s cause action, R s (s.enterFault cause action)
  takeOverride : ∀ s cause, R s (s.takeOverride cause)
  endOverride : ∀ s, R s s.endOverride

namespace RequestsMeet

variable {R : State → State → Prop} (meet : RequestsMeet R) {s : State}
include meet

theorem fitting {fits : Bool} {a : Answer} (h : R s a.state) : R s (s.fitting fits a).state :=
  fitting_keeps (meet.refl s) h

theorem withTarget {α : Type} {target : Option α} {a : α → Answer} (h : ∀ t, R s (a t).state) :
    R s (s.withTarget target a).state := withTarget_keeps (meet.refl s) h

theorem withValue {α : Type} {value : Option α} {a : α → Answer} (h : ∀ v, R s (a v).state) :
    R s (s.withValue value a).state := withValue_keeps (meet.refl s) h

theorem storeRequest {op : StoreOp} (clamped : Bool)
    (live : ∀ k scene, op = .scst k scene → ∃ label, scene = s.liveSetup label) :
    R s (s.storeRequest op clamped).state := by
  unfold State.storeRequest
  split
  · exact meet.refl s
  · split
    · exact meet.refl s
    · split
      · exact meet.latch ..
      · split
        · exact meet.refl s
        · exact meet.acceptStore s op live

theorem recallSlot (k : Fin 64) (mode : RecallMode) (keepTrims : Bool) : R s (s.recallSlot k mode keepTrims).state := by
  unfold State.recallSlot
  split
  · exact meet.refl s
  · split
    · exact meet.refl s
    · exact meet.refl s
    · next slot => exact meet.recalled _ _ _ _ _ _ slot

theorem answerJoin (body : List Byte) : R s (s.answerJoin body).state := by
  refine meet.fitting (meet.withTarget fun pair => ?_)
  split
  · next may => exact meet.joinArea _ _ _ may
  · exact meet.refl s

theorem answerSplt (body : List Byte) : R s (s.answerSplt body).state := by
  refine meet.fitting (meet.withTarget fun x => ?_)
  split
  · exact meet.refl s
  · next joined => exact meet.splitArea _ _ _ joined

theorem pauseRequest (body : List Byte) (paused : Bool) : R s (s.pauseRequest body paused).state := by
  refine meet.fitting (meet.withTarget fun k => ?_)
  split
  · exact meet.changePause ..
  · exact meet.refl s

theorem askRestart : R s s.askRestart.state := by
  unfold State.askRestart
  split
  · exact meet.refl s
  · split
    · exact meet.refl s
    · exact meet.restartAccepted ..

theorem armFirst : R s s.armFirst.state := by
  unfold State.armFirst
  split
  · split
    · exact meet.refl s
    · exact meet.enterAlarmState ..
  · exact meet.refl s
  · exact meet.refl s
  · exact meet.refl s

theorem armSecond (enable : Bool) : R s (s.armSecond enable).state := by
  unfold State.armSecond
  split
  · exact meet.refl s
  · cases enable with
    | false => exact meet.enterAlarmState ..
    | true => exact meet.enterArmed s
  · exact meet.refl s
  · exact meet.refl s

theorem alarmOn : R s s.alarmOn.state := by
  unfold State.alarmOn
  split
  · exact meet.takeOverride ..
  · exact meet.refl s
  · exact meet.refl s

theorem alarmOff : R s s.alarmOff.state := by
  unfold State.alarmOff
  split
  · exact meet.refl s
  · exact meet.endOverride s
  · exact meet.refl s

theorem supervise (phase : Nat) : R s (s.supervise phase).state := by
  unfold State.supervise
  split
  · split
    · exact meet.timer ..
    · split
      · exact meet.timer ..
      · exact meet.enterFault ..
  · exact meet.enterFault ..
  · exact meet.refl s

/-- The requests of the control line, in the order of Table 9-3. -/
theorem answerControl (kind : Byte) (body : List Byte) : R s (s.answerControl kind body).state := by
  unfold State.answerControl
  split
  · exact meet.fitting (meet.refl s)
  · exact meet.fitting (meet.fetched ..)
  · exact meet.fitting (meet.withValue fun _ => meet.subscribed ..)
  · exact meet.fitting (meet.withTarget fun _ => meet.withValue fun _ => meet.changeInput ..)
  · exact meet.fitting (meet.withTarget fun _ => meet.clearReversals ..)
  · exact meet.fitting (meet.withTarget fun _ => meet.withValue fun _ => meet.changeZone ..)
  · exact meet.fitting (meet.withTarget fun _ => meet.refl s)
  · exact meet.fitting (meet.withTarget fun _ => meet.withValue fun _ => meet.changeZoneGeometry ..)
  · exact meet.fitting (meet.withTarget fun _ => meet.withValue fun _ => meet.changeStation ..)
  · exact meet.fitting (meet.withTarget fun _ => meet.refl s)
  · exact meet.fitting (meet.withValue fun _ => meet.takeClimate ..)
  · exact meet.fitting (meet.withTarget fun _ => meet.changeSends ..)
  · exact meet.fitting (meet.withTarget fun _ => meet.refl s)
  · exact meet.fitting (meet.withTarget fun _ => meet.snapToTargets ..)
  · exact meet.fitting (meet.withTarget fun _ => meet.withValue fun _ => meet.changeAreaSettings ..)
  · exact meet.fitting (meet.withTarget fun _ => meet.refl s)
  · exact meet.answerJoin body
  · exact meet.answerSplt body
  · exact meet.pauseRequest ..
  · exact meet.pauseRequest ..
  · exact meet.fitting (meet.withTarget fun _ => meet.withValue fun _ => meet.setPanel ..)
  · exact meet.fitting (meet.withTarget fun _ => meet.setPanel ..)
  · exact meet.fitting (meet.withTarget fun _ => meet.withValue fun _ => meet.recallSlot ..)
  · refine meet.fitting (meet.withTarget fun _ => meet.withValue fun label => meet.storeRequest false ?_)
    rintro _ _ ⟨⟩
    exact ⟨label, rfl⟩
  · exact meet.fitting (meet.withTarget fun _ => meet.storeRequest _ nofun)
  · exact meet.fitting (meet.withTarget fun _ => meet.refl s)
  · exact meet.fitting (meet.withValue fun _ => meet.storeRequest _ nofun)
  · exact meet.fitting (meet.latch ..)
  · exact meet.fitting (meet.latch ..)
  · exact meet.fitting (meet.withValue fun _ => meet.storeRequest _ nofun)
  · exact meet.fitting (meet.withValue fun _ => meet.storeRequest _ nofun)
  · exact meet.fitting (meet.refl s)
  · exact meet.fitting meet.armFirst
  · exact meet.fitting (meet.withValue fun _ => meet.armSecond _)
  · exact meet.fitting meet.askRestart
  · exact meet.refl s

/-- The requests of the safety line, in the order of Table 9-4. -/
theorem answerSafety (kind : Byte) (body : List Byte) : R s (s.answerSafety kind body).state := by
  unfold State.answerSafety
  split
  · exact meet.fitting meet.alarmOn
  · exact meet.fitting meet.alarmOff
  · exact meet.fitting (meet.supervise _)
  · exact meet.refl s

theorem answerTo (line : Line) (kind : Byte) (body : List Byte) : R s (s.answerTo line kind body).state := by
  cases line with
  | control => exact meet.answerControl kind body
  | safety => exact meet.answerSafety kind body

end RequestsMeet

/-! ### Commands -/

/-- Every change that a command can make meets a relation of the states before and after, start-ups, losses of power and
frame boundaries apart. -/
structure CommandsMeet (R : State → State → Prop) extends RequestsMeet R where
  trans : ∀ {s t u}, R s t → R t u → R s u
  setLine : ∀ s line l, R s (s.setLine line l)
  inputFrame : ∀ s i samples, R s (s.inputFrame i samples)
  holdTick : ∀ s k, R s (s.holdTick k)
  holdExpiry : ∀ s i, R s (s.holdExpiry i)
  planFrameStep : ∀ s audio, R s (s.planFrameStep audio)
  moveEnd : ∀ s x, R s (s.setCrosspoint x (s.settleMove x (s.crosspoint x)))
  completeStore : ∀ s, R s s.completeStore
  panelSample : ∀ s n levelA levelB levelZ, R s (s.panelSample n levelA levelB levelZ)
  keySample : ∀ s level, R s (s.keySample level)
  supervisionTick : ∀ s, R s s.supervisionTick
  expireSupervision : ∀ s, R s s.expireSupervision

/-- A command that is a good frame is the request of its kind, or is refused as one of no known kind. -/
theorem exec_of_requestOf {c : Instr} {line : Line} {kind tag : Byte} {body : List Byte}
    (named : requestOf c = some (line, kind, tag, body)) (s : State) :
    exec c s = s.request line kind tag body (fun s => s.answerTo line kind body)
      ∨ exec c s = s.request line kind tag body fun s => s.refuse .unknownKind := by
  cases c with
  | unknownKind => cases named; exact .inr rfl
  | _ => cases named <;> exact .inl rfl

namespace CommandsMeet

variable {R : State → State → Prop} (meet : CommandsMeet R) {s t : State}
include meet

theorem requestsKeep (s : State) : RequestsKeep (R s) where
  line t line l h := meet.trans h (meet.setLine t line l)
  answered _ line kind body h := meet.trans h (meet.answerTo line kind body)

/-- An event of a part with power meets the relation, with or without power. -/
theorem whenPowered (event : State → State) (e : s.whenPowered event = .next t) (met : R s (event s)) : R s t :=
  whenPowered_keeps event (meet.refl s) e met

theorem discardPartial (line : Line) : R s (s.discardPartial line) := by
  unfold State.discardPartial
  split
  · exact meet.setLine ..
  · exact meet.refl s

theorem exec {c : Instr} (e : exec c s = .next t) (running : ¬ StartsOver c) (amid : c ≠ .frameBoundary) : R s t := by
  have requests := meet.requestsKeep s
  have fed (line : Line) (bytes : List Byte) : R s (s.feed line bytes) := requests.feed bytes (meet.refl s)
  cases named : requestOf c with
  | some request =>
    rcases exec_of_requestOf named s with r | r
    · exact requests.accepted _ _ (meet.refl s) (r.symm.trans e)
    · exact requests.request id (meet.refl s) (r.symm.trans e)
  | none =>
    cases c with
    | checkFailed line bytes => exact meet.whenPowered (fun s => s.feed line (startByteValue :: bytes)) e (fed ..)
    | startByte line following => exact meet.whenPowered (fun s => s.feed line (startByteValue :: following)) e (fed ..)
    | frameDuringReply line => exact meet.whenPowered (fun s => s) e (meet.refl s)
    | framingError line => exact meet.whenPowered (fun s => s.discardPartial line) e (meet.discardPartial line)
    | partialFrameGap line => exact meet.whenPowered (fun s => s.discardPartial line) e (meet.discardPartial line)
    | replySent line =>
      exact meet.whenPowered (fun s => s.setLine line { s.line line with reply := none }) e (meet.setLine ..)
    | inputFrame i samples => exact meet.whenPowered (fun s => s.inputFrame i samples) e (meet.inputFrame s i samples)
    | holdTick k => exact meet.whenPowered (fun s => s.holdTick k) e (meet.holdTick s k)
    | holdExpiry i => exact meet.whenPowered (fun s => s.holdExpiry i) e (meet.holdExpiry s i)
    | planFrameStep audio => exact meet.whenPowered (fun s => s.planFrameStep audio) e (meet.planFrameStep s audio)
    | moveEnd x =>
      exact meet.whenPowered (fun s => s.setCrosspoint x (s.settleMove x (s.crosspoint x))) e (meet.moveEnd s x)
    | storeCompletion => exact meet.whenPowered (fun s => s.completeStore) e (meet.completeStore s)
    | panelSample n levelA levelB levelZ =>
      exact meet.whenPowered (fun s => s.panelSample n levelA levelB levelZ) e
        (meet.panelSample s n levelA levelB levelZ)
    | keySwitchSample level => exact meet.whenPowered (fun s => s.keySample level) e (meet.keySample s level)
    | supervisionTick => exact meet.whenPowered (fun s => s.supervisionTick) e (meet.supervisionTick s)
    | supervisionExpiry =>
      refine meet.whenPowered (fun s => if s.supervisionOver then s.expireSupervision else s) e ?_
      split
      · exact meet.expireSupervision s
      · exact meet.refl s
    | powerOn => exact absurd trivial running
    | restart => exact absurd trivial running
    | powerLoss => exact absurd trivial running
    | frameBoundary => exact absurd rfl amid
    | _ => cases named

end CommandsMeet

end Sys2Proof.Machine
end

section
/-! SUPPORT. What the operations at areas and lists can change, and what those at zones, geometry, panels, the plan and the
alarm leave alone: the inputs, the areas, the stored contents, the store operation in flight and the frame stamp. -/

namespace Sys2Proof.Machine

open Sys2Proof.Safety

/-- The inputs, the areas, the stored contents, the store operation in flight and the frame stamp stand. -/
structure CoreStands (s t : State) : Prop where
  inputs : t.inputs = s.inputs
  areas : t.areas = s.areas
  store : t.store = s.store
  operation : t.operation = s.operation
  stamp : t.stamp = s.stamp

section
variable {s t u : State}

theorem CoreStands.refl (s : State) : CoreStands s s := ⟨rfl, rfl, rfl, rfl, rfl⟩

theorem CoreStands.trans (h : CoreStands s t) (k : CoreStands t u) : CoreStands s u :=
  ⟨k.inputs.trans h.inputs, k.areas.trans h.areas, k.store.trans h.store, k.operation.trans h.operation,
    k.stamp.trans h.stamp⟩

theorem CoreStands.ite {c : Prop} [Decidable c] (h : CoreStands s t) (k : CoreStands s u) :
    CoreStands s (if c then t else u) := by
  split
  · exact h
  · exact k

theorem OnlyPlan.coreStands (h : OnlyPlan s t) : CoreStands s t := by
  obtain ⟨_, _, _, rfl⟩ := h
  exact ⟨rfl, rfl, rfl, rfl, rfl⟩

theorem OnlyNotices.coreStands (h : OnlyNotices s t) : CoreStands s t := h.plan.coreStands

end

variable (s : State)

theorem raise_coreStands (k : NoticeKind) (n : Nat) (v : Int) : CoreStands s (s.raise k n v) :=
  (raise_onlyNotices s k n v).coreStands

theorem setLine_coreStands (line : Line) (l : LineState) : CoreStands s (s.setLine line l) := by
  cases line <;> exact ⟨rfl, rfl, rfl, rfl, rfl⟩

theorem setZone_coreStands (z : Fin 16) (x : Zone) : CoreStands s (s.setZone z x) := ⟨rfl, rfl, rfl, rfl, rfl⟩

theorem setPanel_coreStands (n : Fin 8) (p : Panel) : CoreStands s (s.setPanel n p) := ⟨rfl, rfl, rfl, rfl, rfl⟩

theorem setAlarm_coreStands (alarm : AlarmUnit) : CoreStands s { s with alarm } := ⟨rfl, rfl, rfl, rfl, rfl⟩

theorem retime_coreStands (which : Fin 384 → Bool) : CoreStands s (s.retime which) := (retime_onlyPlan s which).coreStands

/-! ### Areas and lists -/

theorem changeAreaSettings_onlyMixing (k : Area) (new : AreaSettings) : OnlyMixing s (s.changeAreaSettings k new) := by
  have put (u : AreaUnit) := (setArea_onlyLists s k u).mixing
  unfold State.changeAreaSettings
  dsimp only
  split
  · exact (put _).trans (((applySettings_onlyLists ..).mixing.trans (updateNom_onlyMixing ..)).trans
      (retarget_onlyLists ..).mixing)
  · exact put _

theorem changePause_onlyMixing (k : Area) (paused : Bool) : OnlyMixing s (s.changePause k paused) := by
  have put := (setArea_onlyLists s k { s.area k with paused }).mixing
  unfold State.changePause
  dsimp only
  split
  · exact .refl s
  · refine OnlyMixing.trans ?_ (retarget_onlyLists ..).mixing
    split
    · exact put.trans ((releaseRetained_onlyLists ..).mixing.trans (updateNom_onlyMixing ..))
    · exact put

theorem holdExpiry_onlyMixing (i : Fin 24) : OnlyMixing s (s.holdExpiry i) := by
  unfold State.holdExpiry
  split
  · exact .refl s
  · split
    · exact (expireHold_onlyLists ..).mixing.trans (updateNom_onlyMixing ..)
    · exact .refl s

/-! ### Zones and geometry -/

theorem changeZone_coreStands (z : Fin 16) (new : ZoneScene) : CoreStands s (s.changeZone z new) := by
  have lived {c : Prop} [Decidable c] (t : State) : CoreStands t (if c then t else t.relive (ofZone z)) :=
    .ite (.refl t) (relive_onlyPlan ..).coreStands
  exact ((setZone_coreStands ..).trans (lived _)).trans (recompose_onlyPlan ..).coreStands

theorem changeZoneGeometry_coreStands (z : Fin 16) (new : ZoneGeometry) :
    CoreStands s (s.changeZoneGeometry z new) :=
  .ite ((setZone_coreStands ..).trans (retime_coreStands ..)) (setZone_coreStands ..)

theorem changeStation_coreStands (n : Fin 32) (new : Station) : CoreStands s (s.changeStation n new) := by
  have put : CoreStands s { s with stations := s.stations.set n new } := ⟨rfl, rfl, rfl, rfl, rfl⟩
  exact .ite (put.trans (retime_coreStands ..)) put

theorem takeReport_coreStands (report : Int) : CoreStands s (s.takeReport report) := by
  have used : CoreStands s { s with reported := some report, used := report } := ⟨rfl, rfl, rfl, rfl, rfl⟩
  exact .ite ((used.trans (raise_coreStands ..)).trans (retime_coreStands ..)) ⟨rfl, rfl, rfl, rfl, rfl⟩

theorem takeClimate_coreStands (parts : ClimateParts) : CoreStands s (s.takeClimate parts) := by
  obtain ⟨report, settings⟩ := parts
  have set : CoreStands s (match settings with | none => s | some p => s.takeClimateSettings p.1 p.2) := by
    cases settings <;> exact ⟨rfl, rfl, rfl, rfl, rfl⟩
  cases report with
  | none => exact set
  | some report => exact set.trans (takeReport_coreStands _ report)

theorem changeSends_coreStands (i : Fin 24) (first : Fin 16) (values : List Int) :
    CoreStands s (s.changeSends i first values) :=
  (updateCrosspoints_onlyPlan ..).coreStands.trans (reevaluate_onlyPlan ..).coreStands

/-! ### Panels -/

theorem panelTrim_coreStands (n : Fin 8) (z : Fin 16) (new : Int) : CoreStands s (s.panelTrim n z new) := by
  have put := (setZone_coreStands s z { s.zone z with trim := new }).trans (recompose_onlyPlan _ (ofZone z)).coreStands
  exact .ite (.refl s) (put.trans (.ite (raise_coreStands ..) (.refl _)))

theorem takeDetent_coreStands (n : Fin 8) (d : Detent) : CoreStands s (s.takeDetent n d) := by
  unfold State.takeDetent
  split
  · exact .refl s
  · have limited {c : Prop} [Decidable c] (p : Panel) : CoreStands s (if c then s else s.setPanel n p) :=
      .ite (.refl s) (setPanel_coreStands ..)
    exact (limited _).trans (panelTrim_coreStands ..)

theorem takePush_coreStands (n : Fin 8) : CoreStands s (s.takePush n) := by
  unfold State.takePush
  split
  · exact .refl s
  · exact (setPanel_coreStands ..).trans (panelTrim_coreStands ..)

theorem illegalTransition_coreStands (n : Fin 8) : CoreStands s (s.illegalTransition n) :=
  .ite (setPanel_coreStands ..) ((setPanel_coreStands ..).trans (raise_coreStands ..))

theorem takeEdge_coreStands (n : Fin 8) (step : Int) : CoreStands s (s.takeEdge n step) := by
  unfold State.takeEdge
  dsimp only
  split
  · exact setPanel_coreStands ..
  · exact (setPanel_coreStands ..).trans (takeDetent_coreStands ..)

theorem decodeLines_coreStands (n : Fin 8) : CoreStands s (s.decodeLines n) := by
  unfold State.decodeLines
  dsimp only
  split
  · split
    · exact setPanel_coreStands ..
    · split
      · exact (setPanel_coreStands ..).trans (takeEdge_coreStands ..)
      · exact (setPanel_coreStands ..).trans (illegalTransition_coreStands ..)
      · exact setPanel_coreStands ..
  · exact .refl s

theorem panelSample_coreStands (n : Fin 8) (levelA levelB levelZ : Bool) :
    CoreStands s (s.panelSample n levelA levelB levelZ) := by
  have decoded {c : Prop} [Decidable c] (t : State) : CoreStands t (if c then t.decodeLines n else t) :=
    .ite (decodeLines_coreStands t n) (.refl t)
  exact ((setPanel_coreStands ..).trans (decoded _)).trans (.ite (takePush_coreStands ..) (.refl _))

/-! ### The alarm (R141 to R147, R149) -/

theorem enterAlarmState_coreStands (state : AlarmState) : CoreStands s (s.enterAlarmState state) :=
  (setAlarm_coreStands ..).trans (raise_coreStands ..)

theorem enterFault_coreStands (cause : FaultCause) (action : ActionTaken) : CoreStands s (s.enterFault cause action) :=
  ((setAlarm_coreStands ..).trans (enterAlarmState_coreStands ..)).trans (raise_coreStands ..)

theorem takeOverride_coreStands (cause : OverrideCause) : CoreStands s (s.takeOverride cause) := by
  have held {c : Prop} [Decidable c] : CoreStands s (if c then s.setSelectors .alarmSource else s) :=
    .ite ⟨rfl, rfl, rfl, rfl, rfl⟩ (.refl s)
  exact (held.trans (setAlarm_coreStands ..)).trans (raise_coreStands ..)

theorem endOverride_coreStands : CoreStands s s.endOverride := by
  have ended : CoreStands s ((s.setCause .noCause).floorReset.setSelectors .crosspointSum) := ⟨rfl, rfl, rfl, rfl, rfl⟩
  exact ended.trans (raise_coreStands ..)

theorem loadTimer_coreStands (phase : Nat) : CoreStands s (s.loadTimer phase) := setAlarm_coreStands ..

end Sys2Proof.Machine
end

section
/-! PROOFS. O13: the frame boundary, and the commands that leave the stamp. -/

namespace Sys2Proof.Machine

open Sys2Proof.Safety

/-- R159: the frame stamp stands. -/
structure SameStamp (s t : State) : Prop where
  stamp : t.stamp = s.stamp

section
variable {s t u : State}

theorem SameStamp.refl (s : State) : SameStamp s s := ⟨rfl⟩

theorem SameStamp.trans (h : SameStamp s t) (k : SameStamp t u) : SameStamp s u := ⟨k.stamp.trans h.stamp⟩

theorem SameStamp.ite {c : Prop} [Decidable c] (h : SameStamp s t) (k : SameStamp s u) :
    SameStamp s (if c then t else u) := by
  split
  · exact h
  · exact k

theorem OnlySetupAndAlarm.sameStamp (h : OnlySetupAndAlarm s t) : SameStamp s t := by
  obtain ⟨_, _, _, _, _, _, _, _, rfl⟩ := h
  exact ⟨rfl⟩

theorem OnlyMixing.sameStamp (h : OnlyMixing s t) : SameStamp s t := h.setup.setupAndAlarm.sameStamp

theorem CoreStands.sameStamp (h : CoreStands s t) : SameStamp s t := ⟨h.stamp⟩

end

variable (s : State)

/-! ### The key switch, the stores and the alarm -/

theorem decideAutoArm_sameStamp : SameStamp s s.decideAutoArm :=
  .ite (enterArmed_onlySetupAndAlarm s).sameStamp (.refl s)

theorem keySample_sameStamp (level : Bool) : SameStamp s (s.keySample level) := by
  have sampled (key : LineFilter) : SameStamp s { s with key } := ⟨rfl⟩
  have first (t : State) : SameStamp t t.firstKeyAcceptance := .ite ⟨rfl⟩ (decideAutoArm_sameStamp t)
  unfold State.keySample
  dsimp only
  split
  · split
    · exact (sampled _).trans (first _)
    · exact (sampled _).trans (raise_coreStands ..).sameStamp
  · exact sampled _

theorem supervisionTick_sameStamp : SameStamp s s.supervisionTick := by
  have ticked (u : AlarmUnit) : SameStamp s { s with alarm := u } := ⟨rfl⟩
  unfold State.supervisionTick
  split
  · exact .ite ((ticked _).trans (expireSupervision_onlySetupAndAlarm _).sameStamp) (ticked _)
  · exact .refl s

theorem completeStore_sameStamp : SameStamp s s.completeStore := by
  have finished (op : StoreOp) : SameStamp s (s.finishOperation op) := by cases op <;> exact ⟨rfl⟩
  have deferred (t : State) : SameStamp t t.takeDeferredDecision :=
    .ite (SameStamp.trans (t := { t with alarm := { t.alarm with autoArmDeferred := false } }) ⟨rfl⟩
      (decideAutoArm_sameStamp _)) (.refl t)
  unfold State.completeStore
  split
  · exact .refl s
  · refine SameStamp.trans ?_ (raise_coreStands ..).sameStamp
    split
    · exact (finished _).trans (deferred _)
    · exact finished _

/-! ### Every command but a start-up, a loss of power and a frame boundary -/

theorem commands_sameStamp : CommandsMeet SameStamp where
  refl := .refl
  trans := .trans
  fetched _ _ _ := ⟨rfl⟩
  subscribed _ _ := ⟨rfl⟩
  restartAccepted _ _ := ⟨rfl⟩
  latch _ _ := ⟨rfl⟩
  changeInput s i new := (changeInput_onlyMixing s i new).sameStamp
  clearReversals _ _ := ⟨rfl⟩
  changeZone s z new := (changeZone_coreStands s z new).sameStamp
  changeZoneGeometry s z new := (changeZoneGeometry_coreStands s z new).sameStamp
  changeStation s n new := (changeStation_coreStands s n new).sameStamp
  takeClimate s parts := (takeClimate_coreStands s parts).sameStamp
  changeSends _ _ _ _ := ⟨rfl⟩
  snapToTargets _ _ := ⟨rfl⟩
  changeAreaSettings s k new := (changeAreaSettings_onlyMixing s k new).sameStamp
  joinArea s x y _ := (joinArea_onlyMixing s x y).sameStamp
  splitArea s x y _ := (splitArea_onlyMixing s x y).sameStamp
  changePause s k paused := (changePause_onlyMixing s k paused).sameStamp
  setPanel _ _ _ := ⟨rfl⟩
  recalled s k scene mode keepTrims cause _ := (recall_onlySetup s k scene mode keepTrims cause).setupAndAlarm.sameStamp
  acceptStore _ _ _ := ⟨rfl⟩
  timer _ _ := ⟨rfl⟩
  enterAlarmState s state := (enterAlarmState_coreStands s state).sameStamp
  enterArmed s := (enterArmed_onlySetupAndAlarm s).sameStamp
  enterFault s cause action := (enterFault_coreStands s cause action).sameStamp
  takeOverride s cause := (takeOverride_coreStands s cause).sameStamp
  endOverride s := (endOverride_coreStands s).sameStamp
  setLine s line l := (setLine_coreStands s line l).sameStamp
  inputFrame s i samples := (inputFrame_onlyMixing s i samples).sameStamp
  holdTick s k := (holdTick_onlyMixing s k).sameStamp
  holdExpiry s i := (holdExpiry_onlyMixing s i).sameStamp
  planFrameStep _ _ := ⟨rfl⟩
  moveEnd _ _ := ⟨rfl⟩
  completeStore := completeStore_sameStamp
  panelSample s n levelA levelB levelZ := (panelSample_coreStands s n levelA levelB levelZ).sameStamp
  keySample := keySample_sameStamp
  supervisionTick := supervisionTick_sameStamp
  expireSupervision s := (expireSupervision_onlySetupAndAlarm s).sameStamp

/-! ### The frame boundary (R102, R137, R147, R149, R159) -/

theorem frameBoundary_stamp : s.frameBoundary.stamp.toNat = (s.stamp.toNat + 1) % 2 ^ 32 := BitVec.toNat_add ..

theorem frameBoundary_input (i : Fin 24) : s.frameBoundary.input i = { s.input i with frameTaken := false } :=
  Table.get_mapIdx ..

theorem frameBoundary_zone (z : Fin 16) : s.frameBoundary.zone z = s.zoneAtBoundary z (s.zone z) := Table.get_mapIdx ..

theorem frameBoundary_area (k : Area) : s.frameBoundary.area k = (s.area k).newFrame := Table.get_mapIdx ..

end Sys2Proof.Machine

namespace Sys2Proof.Proofs

open Sys2Proof Sys2Proof.Machine Sys2Proof.Safety

/-- Settles O13: the boundary is read off part by part, and every other command of a running part meets `SameStamp`. -/
theorem frameBoundariesCountTheStamp : Obligations.FrameBoundariesCountTheStamp :=
  ⟨fun s powered => ⟨s.frameBoundary, whenPowered_powered s State.frameBoundary powered, frameBoundary_stamp s, rfl,
      frameBoundary_input s, frameBoundary_zone s, frameBoundary_area s⟩,
    fun _ _ _ e running amid => (commands_sameStamp.exec e running amid).stamp⟩

end Sys2Proof.Proofs
end

section
/-! SUPPORT. R43: what sound open lists are, part by part: a weaker soundness that the passes of a join, a split or a recall
keep as well, and the changes at which entries may leave and none comes. -/

namespace Sys2Proof.Machine

open Sys2Proof.Safety

/-! ### Soundness in parts (R43, R50, R93) -/

/-- R43: the gate is OPEN or HOLDING. -/
def Input.Open (x : Input) : Prop := x.gate = .opened ∨ x.gate = .holding

theorem Input.Open.congr {x y : Input} (h : x.gate = y.gate) : x.Open ↔ y.Open := by rw [Input.Open, Input.Open, h]

/-- R43: the lists name exactly the inputs whose gates are open, each once, in the list of its effective area; they are
GATED, and a retained entry is HOLDING. -/
structure EntriesSound (s : State) : Prop where
  own_area : ∀ k i, i ∈ listed s k → s.inputArea i = some k
  gated : ∀ k i, i ∈ listed s k → (s.input i).settings.mode = .gated
  open_iff : ∀ i, (s.input i).Open ↔ ∃ k, i ∈ listed s k
  no_repeats : ∀ k, (listed s k).Nodup
  retained_holds : ∀ k e, e ∈ (s.area k).list → e.retained = true → s.holds e = true

/-- R43: a retained entry of an area's list is the only one there. -/
def RetainedAlone (s : State) (k : Area) : Prop :=
  ∀ e ∈ (s.area k).list, e.retained = true → (s.area k).list.length = 1

/-- R50: an area's list, if it is in use, is no longer than the area's max open. -/
def WithinMaxOpen (s : State) (k : Area) : Prop :=
  s.inUse k = true → (s.area k).list.length ≤ (s.area k).settings.maxOpen

/-- R93: the live join map is valid. -/
def LiveMapValid (s : State) : Prop := MapValid fun k => (s.area k).joinedInto

section
variable {s t u : State} {i : Fin 24} {k : Area}

theorem mem_listed : i ∈ listed s k ↔ ∃ e ∈ (s.area k).list, e.input = i := List.mem_map

theorem mem_listed_of_mem {e : Entry} (mem : e ∈ (s.area k).list) : e.input ∈ listed s k := List.mem_map_of_mem mem

@[simp] theorem length_listed : (listed s k).length = (s.area k).list.length := List.length_map ..

theorem holds_iff {e : Entry} : s.holds e = true ↔ (s.input e.input).gate = .holding := by simp [State.holds]

theorem inUse_iff : s.inUse k = true ↔ (s.area k).joinedInto = none := by simp [State.inUse]

/-- R94: an effective area is read from the settings and the join map. -/
theorem inputArea_congr (area : (t.input i).settings.area = (s.input i).settings.area)
    (joined : ∀ l, (t.area l).joinedInto = (s.area l).joinedInto) : t.inputArea i = s.inputArea i := by
  unfold State.inputArea
  rw [area]
  exact congrArg (Option.map · _) (funext fun l => by rw [State.leadOf, State.leadOf, joined])

/-- Where each list names inputs of its own area alone, an input is an entry where any list names it. -/
theorem isEntry_iff (own : ∀ k i, i ∈ listed s k → s.inputArea i = some k) :
    s.isEntry i = true ↔ ∃ k, i ∈ listed s k := by
  have named (k : Area) : ((s.area k).list.any fun e => e.input == i) = true ↔ i ∈ listed s k := by
    simp [mem_listed]
  constructor
  · intro entry
    unfold State.isEntry at entry
    split at entry
    · cases entry
    · exact ⟨_, (named _).1 entry⟩
  · rintro ⟨k, mem⟩
    simp only [State.isEntry, own k i mem]
    exact (named k).2 mem

theorem listsSound_iff :
    ListsSound s ↔ EntriesSound s ∧ (∀ k, RetainedAlone s k) ∧ ∀ k, WithinMaxOpen s k := by
  constructor
  · rintro ⟨entry_iff, gated, own_list, no_repeats, within, sole⟩
    have entry {k : Area} {i : Fin 24} (mem : i ∈ listed s k) : s.isEntry i = true := (isEntry_iff own_list).2 ⟨k, mem⟩
    exact ⟨⟨own_list, fun _ i mem => gated i (entry mem), fun i => (entry_iff i).symm.trans (isEntry_iff own_list),
      no_repeats, fun k e mem retained => (sole k e mem retained).2⟩, fun k e mem retained => (sole k e mem retained).1,
      within⟩
  · rintro ⟨⟨own_area, gated, open_iff, no_repeats, holds⟩, alone, within⟩
    exact ⟨fun i => (isEntry_iff own_area).trans (open_iff i).symm,
      fun i entry => ((isEntry_iff own_area).1 entry).elim fun k mem => gated k i mem, own_area, no_repeats, within,
      fun k e mem retained => ⟨alone k e mem retained, holds k e mem retained⟩⟩

/-- R43: an input whose gate is not open is named by no list. -/
theorem EntriesSound.not_listed (sound : EntriesSound s) (shut : ¬ (s.input i).Open) (k : Area) : i ∉ listed s k :=
  fun mem => shut ((sound.open_iff i).2 ⟨k, mem⟩)

/-- R43: no other list names an input than that of its effective area. -/
theorem EntriesSound.only_list (sound : EntriesSound s) (area : s.inputArea i = some k) (l : Area)
    (mem : i ∈ listed s l) : l = k := Option.some.inj ((sound.own_area l i mem).symm.trans area)

end

/-! ### Changes at which no entry comes -/

/-- From `s` to `t` entries may leave and change, but none comes and none becomes retained; the inputs that leave have gates
that are no longer open, and all other gates are open as before. The join map and the max opens stand. -/
structure ListsShrink (s t : State) : Prop where
  settings : ∀ k i, i ∈ listed t k → (t.input i).settings.area = (s.input i).settings.area
    ∧ (t.input i).settings.mode = (s.input i).settings.mode
  joined : ∀ k, (t.area k).joinedInto = (s.area k).joinedInto
  maxOpen : ∀ k, (t.area k).settings.maxOpen = (s.area k).settings.maxOpen
  listed : ∀ k, (listed t k).Sublist (listed s k)
  gate : ∀ i, (t.input i).Open ↔ (s.input i).Open ∧ ∀ k, i ∈ Safety.listed s k → i ∈ Safety.listed t k
  retained : ∀ k e, e ∈ (t.area k).list → e.retained = true →
    (t.input e.input).gate = (s.input e.input).gate ∧ ∃ f ∈ (s.area k).list, f.input = e.input ∧ f.retained = true

namespace ListsShrink

variable {s t u : State}

theorem refl (s : State) : ListsShrink s s where
  settings _ _ _ := ⟨rfl, rfl⟩
  joined _ := rfl
  maxOpen _ := rfl
  listed _ := .refl _
  gate _ := ⟨fun isOpen => ⟨isOpen, fun _ => id⟩, And.left⟩
  retained _ e mem retained := ⟨rfl, e, mem, rfl, retained⟩

theorem trans (h : ListsShrink s t) (k : ListsShrink t u) : ListsShrink s u where
  settings l i mem := by
    have ⟨area, mode⟩ := k.settings l i mem
    have ⟨area', mode'⟩ := h.settings l i ((k.listed l).subset mem)
    exact ⟨area.trans area', mode.trans mode'⟩
  joined l := (k.joined l).trans (h.joined l)
  maxOpen l := (k.maxOpen l).trans (h.maxOpen l)
  listed l := (k.listed l).trans (h.listed l)
  gate i := by
    rw [k.gate, h.gate, and_assoc]
    refine and_congr_right fun _ => ⟨fun stays l mem => stays.2 l (stays.1 l mem), fun stays => ⟨?_, ?_⟩⟩
    · exact fun l mem => (k.listed l).subset (stays l mem)
    · exact fun l mem => stays l ((h.listed l).subset mem)
  retained l e mem retained := by
    obtain ⟨gate, f, f_mem, same, f_retained⟩ := k.retained l e mem retained
    obtain ⟨gate', g, g_mem, same', g_retained⟩ := h.retained l f f_mem f_retained
    exact ⟨gate.trans (same ▸ gate'), g, g_mem, same'.trans same, g_retained⟩

theorem ite {c : Prop} [Decidable c] (h : ListsShrink s t) (k : ListsShrink s u) :
    ListsShrink s (if c then t else u) := by
  split
  · exact h
  · exact k

/-- Entries that change where they stand, and become neither retained nor another input's. -/
theorem of_entries {f : Area → Entry → Entry} (settings : ∀ i, (t.input i).settings = (s.input i).settings)
    (gate : ∀ i, (t.input i).gate = (s.input i).gate)
    (area : ∀ k, (t.area k).joinedInto = (s.area k).joinedInto ∧ (t.area k).settings = (s.area k).settings
      ∧ (t.area k).list = (s.area k).list.map (f k))
    (same : ∀ k e, (f k e).input = e.input) (kept : ∀ k e, (f k e).retained = true → e.retained = true) :
    ListsShrink s t := by
  have listed (k : Area) : Safety.listed t k = Safety.listed s k := by
    rw [Safety.listed, (area k).2.2, List.map_map, Safety.listed]
    exact List.map_congr_left fun e _ => same k e
  exact {
    settings := fun _ i _ => by rw [settings]; exact ⟨rfl, rfl⟩
    joined := fun k => (area k).1
    maxOpen := fun k => by rw [(area k).2.1]
    listed := fun k => by rw [listed]
    gate := fun i => (Input.Open.congr (gate i)).trans (by simp [listed])
    retained := fun k e mem retained => by
      rw [(area k).2.2] at mem
      obtain ⟨g, g_mem, rfl⟩ := List.mem_map.1 mem
      exact ⟨gate _, g, g_mem, (same k g).symm, kept k g retained⟩ }

/-- Inputs that keep their settings and gates, and areas that keep their lists, join map entries and settings. -/
theorem of_same (settings : ∀ i, (t.input i).settings = (s.input i).settings)
    (gate : ∀ i, (t.input i).gate = (s.input i).gate)
    (area : ∀ k, (t.area k).joinedInto = (s.area k).joinedInto ∧ (t.area k).settings = (s.area k).settings
      ∧ (t.area k).list = (s.area k).list) : ListsShrink s t :=
  of_entries (f := fun _ e => e) settings gate (fun k => by rw [List.map_id']; exact area k) (fun _ _ => rfl) fun _ _ => id

/-- Inputs and areas that stand whole. -/
theorem of_unchanged (inputs : ∀ i, t.input i = s.input i) (areas : ∀ k, t.area k = s.area k) : ListsShrink s t :=
  of_same (fun i => by rw [inputs]) (fun i => by rw [inputs]) fun k => by rw [areas]; exact ⟨rfl, rfl, rfl⟩

variable (h : ListsShrink s t)
include h

theorem inputArea {k : Area} {i : Fin 24} (mem : i ∈ Safety.listed t k) : t.inputArea i = s.inputArea i :=
  inputArea_congr (h.settings k i mem).1 h.joined

/-- R43: what entries leave stays sound. -/
theorem entriesSound (sound : EntriesSound s) : EntriesSound t where
  own_area k i mem := (h.inputArea mem).trans (sound.own_area k i ((h.listed k).subset mem))
  gated k i mem := (h.settings k i mem).2.trans (sound.gated k i ((h.listed k).subset mem))
  open_iff i := by
    rw [h.gate, sound.open_iff]
    constructor
    · rintro ⟨⟨k, mem⟩, stays⟩
      exact ⟨k, stays k mem⟩
    · rintro ⟨k, mem⟩
      have before := (h.listed k).subset mem
      refine ⟨⟨k, before⟩, fun l other => ?_⟩
      rwa [sound.only_list (sound.own_area k i before) l other]
  no_repeats k := (sound.no_repeats k).sublist (h.listed k)
  retained_holds k e mem retained := by
    obtain ⟨gate, f, f_mem, same, f_retained⟩ := h.retained k e mem retained
    rw [holds_iff, gate, ← same]
    exact holds_iff.1 (sound.retained_holds k f f_mem f_retained)

theorem length_le (k : Area) : (t.area k).list.length ≤ (s.area k).list.length := by
  simpa using (h.listed k).length_le

theorem retainedAlone {k : Area} (alone : RetainedAlone s k) : RetainedAlone t k := by
  intro e mem retained
  obtain ⟨_, f, f_mem, _, f_retained⟩ := h.retained k e mem retained
  have one := alone f f_mem f_retained
  have some := List.length_pos_of_mem mem
  have fewer := h.length_le k
  omega

theorem withinMaxOpen {k : Area} (within : WithinMaxOpen s k) : WithinMaxOpen t k := fun inUse => by
  rw [h.maxOpen]
  exact (h.length_le k).trans (within (by rwa [inUse_iff, ← h.joined, ← inUse_iff]))

theorem noneRetained {k : Area} (none : ∀ e ∈ (s.area k).list, e.retained = false) :
    ∀ e ∈ (t.area k).list, e.retained = false := fun e mem => Bool.eq_false_iff.2 fun retained => by
  obtain ⟨_, f, f_mem, _, f_retained⟩ := h.retained k e mem retained
  exact Bool.false_ne_true ((none f f_mem).symm.trans f_retained)

theorem liveMapValid (valid : LiveMapValid s) : LiveMapValid t := by
  rw [LiveMapValid, funext h.joined]
  exact valid

theorem listsSound (sound : ListsSound s) : ListsSound t := by
  obtain ⟨entries, alone, within⟩ := listsSound_iff.1 sound
  exact listsSound_iff.2 ⟨h.entriesSound entries, fun k => h.retainedAlone (alone k), fun k => h.withinMaxOpen (within k)⟩

end ListsShrink

theorem OnlyPlan.listsShrink {s t : State} (h : OnlyPlan s t) : ListsShrink s t := .of_unchanged h.input h.area

theorem OnlyNotices.listsShrink {s t : State} (h : OnlyNotices s t) : ListsShrink s t := h.plan.listsShrink

theorem NomRecomputed.listsShrink {s t : State} (h : NomRecomputed s t) : ListsShrink s t :=
  .of_same (fun i => by rw [h.input]) (fun i => by rw [h.input]) fun k => by
    rw [h.list, h.areas.area]; exact ⟨rfl, rfl, rfl⟩

end Sys2Proof.Machine
end

section
/-! SUPPORT. R34, R47 to R49, R53 to R56, R61: the operations at which no entry comes, each of them `ListsShrink`, and what
those leave that bring a list within its bound or release its retained entries. -/

namespace Sys2Proof.Machine

open Sys2Proof.Safety

section
variable {s : State} {i : Fin 24} {k : Area}

/-! ### Inputs -/

theorem setInput_gate {y : Input} (gate : y.gate = (s.input i).gate) (j : Fin 24) :
    ((s.setInput i y).input j).gate = (s.input j).gate := by
  rw [setInput_input]
  split
  · next same => exact same ▸ gate
  · rfl

theorem setInput_settings {y : Input} (settings : y.settings = (s.input i).settings) (j : Fin 24) :
    ((s.setInput i y).input j).settings = (s.input j).settings := by
  rw [setInput_input]
  split
  · next same => exact same ▸ settings
  · rfl

/-- An input that keeps its settings and its gate. -/
theorem setInput_listsShrink {y : Input} (settings : y.settings = (s.input i).settings)
    (gate : y.gate = (s.input i).gate) : ListsShrink s (s.setInput i y) :=
  .of_same (setInput_settings settings) (setInput_gate gate) fun _ => ⟨rfl, rfl, rfl⟩

/-- Any change of an input that no list names, and whose gate is not open after it. -/
theorem setInput_unlisted_listsShrink {y : Input} (sound : EntriesSound s) (unlisted : ∀ k, i ∉ listed s k)
    (shut : ¬ y.Open) : ListsShrink s (s.setInput i y) := by
  have other {j : Fin 24} {k : Area} (mem : j ∈ listed s k) : i ≠ j := fun same => unlisted k (same ▸ mem)
  exact {
    settings := fun k j mem => by rw [setInput_input, if_neg (other mem)]; exact ⟨rfl, rfl⟩
    joined := fun _ => rfl
    maxOpen := fun _ => rfl
    listed := fun _ => .refl _
    gate := fun j => by
      have stays : ∀ k, j ∈ listed s k → j ∈ listed (s.setInput i y) k := fun _ => id
      rw [setInput_input]
      split
      · next same =>
        have closed : ¬ (s.input j).Open := fun isOpen =>
          ((sound.open_iff j).1 isOpen).elim fun k mem => unlisted k (same ▸ mem)
        exact iff_of_false shut fun isOpen => closed isOpen.1
      · exact ⟨fun isOpen => ⟨isOpen, stays⟩, And.left⟩
    retained := fun k e mem retained => by
      rw [setInput_input, if_neg (other (mem_listed_of_mem mem))]
      exact ⟨rfl, e, mem, rfl, retained⟩ }

theorem not_open_of_closed {x : Input} (h : x.gate = .closed) : ¬ x.Open := by simp [Input.Open, h]

theorem closeGate_listsShrink (sound : EntriesSound s) (unlisted : ∀ k, i ∉ listed s k) :
    ListsShrink s (s.closeGate i) := setInput_unlisted_listsShrink sound unlisted (not_open_of_closed rfl)

theorem denyGate_listsShrink (sound : EntriesSound s) (unlisted : ∀ k, i ∉ listed s k) :
    ListsShrink s (s.denyGate i) := setInput_unlisted_listsShrink sound unlisted (by simp [Input.Open])

variable (s) in
theorem retarget_listsShrink (which : Fin 24 → Bool) : ListsShrink s (s.retarget which) := by
  have input (i : Fin 24) : (s.retarget which).input i
      = if which i then (s.input i).aim (s.gateTargetOf i) else s.input i := Table.get_mapIdx ..
  refine .of_same (fun i => ?_) (fun i => ?_) fun _ => ⟨rfl, rfl, rfl⟩
  · rw [input]; split <;> rfl
  · rw [input]; split <;> rfl

variable (s) in
theorem retargetStanding_listsShrink : ListsShrink s s.retargetStanding :=
  .of_same (fun i => by rw [retargetStanding_input]) (fun i => by rw [retargetStanding_input])
    fun _ => ⟨rfl, rfl, rfl⟩

variable (s) in
theorem updateNom_listsShrink (k : Area) : ListsShrink s (s.updateNom k) := (updateNom_nomRecomputed s k).listsShrink

/-- An area whose list, join map entry and max open stand. -/
theorem setArea_listsShrink {u : AreaUnit} (list : u.list = (s.area k).list)
    (joined : u.joinedInto = (s.area k).joinedInto) (settings : u.settings = (s.area k).settings) :
    ListsShrink s (s.setArea k u) := by
  refine .of_same (fun _ => rfl) (fun _ => rfl) fun l => ?_
  rw [setArea_area]
  split
  · next same => exact same ▸ ⟨joined, settings, list⟩
  · exact ⟨rfl, rfl, rfl⟩

variable (s) in
theorem setNom_listsShrink (k : Area) : ListsShrink s (s.setNom k) := setArea_listsShrink rfl rfl rfl

/-! ### Entries that change where they stand -/

/-- An area whose entries change alone, and become neither retained nor another input's. -/
theorem setArea_entries_listsShrink {u : AreaUnit} {f : Entry → Entry} (list : u.list = (s.area k).list.map f)
    (joined : u.joinedInto = (s.area k).joinedInto) (settings : u.settings = (s.area k).settings)
    (same : ∀ e, (f e).input = e.input) (kept : ∀ e, (f e).retained = true → e.retained = true) :
    ListsShrink s (s.setArea k u) := by
  refine .of_entries (f := fun l e => if k = l then f e else e) (fun _ => rfl) (fun _ => rfl) (fun l => ?_) (fun l e => ?_) fun l e => ?_
  · rw [setArea_area]
    split
    · next named => subst named; exact ⟨joined, settings, list⟩
    · exact ⟨rfl, rfl, (List.map_id' _).symm⟩
  · split
    · exact same e
    · rfl
  · split
    · exact kept e
    · exact id

theorem updateEntry_listsShrink {f : Entry → Entry} (same : ∀ e, (f e).input = e.input)
    (kept : ∀ e, (f e).retained = true → e.retained = true) : ListsShrink s (s.updateEntry k i f) := by
  refine setArea_entries_listsShrink (f := fun e => if e.input == i then f e else e) rfl rfl rfl (fun e => ?_) fun e => ?_
  · split
    · exact same e
    · rfl
  · split
    · exact kept e
    · exact id

/-! ### Entries that leave -/

/-- R34: an input whose entry has left is named by its list no more. -/
theorem dropEntry_not_listed (sound : EntriesSound s) (r : ListReason) : i ∉ listed (s.dropEntry k r i) k := by
  intro mem
  obtain ⟨e, e_mem, own⟩ := mem_listed.1 mem
  rw [dropEntry_list, if_pos rfl] at e_mem
  exact input_ne_of_mem_eraseP (sound.no_repeats k) e_mem own

/-- R34: an entry's leaving, where no other list names its input. -/
theorem dropEntry_listsShrink (sound : EntriesSound s) (only : ∀ l, i ∈ listed s l → l = k) (r : ListReason) :
    ListsShrink s (s.dropEntry k r i) := by
  have list (l : Area) := dropEntry_list s k r i l
  have gone (l : Area) : i ∉ listed (s.dropEntry k r i) l := by
    by_cases same : k = l
    · exact same ▸ dropEntry_not_listed sound r
    · intro mem
      rw [listed, list, if_neg same] at mem
      exact same (only l mem).symm
  have stays {j : Fin 24} (other : i ≠ j) (l : Area) (mem : j ∈ listed s l) : j ∈ listed (s.dropEntry k r i) l := by
    obtain ⟨e, e_mem, own⟩ := mem_listed.1 mem
    refine mem_listed.2 ⟨e, ?_, own⟩
    rw [list]
    split
    · exact (List.mem_eraseP_of_neg (by simpa [own] using other.symm)).2 e_mem
    · exact e_mem
  have input (j : Fin 24) := dropEntry_input s k r i j
  exact {
    settings := fun _ j _ => by rw [input]; split <;> exact ⟨rfl, rfl⟩
    joined := fun l => by rw [(dropEntry_areasStand s k r i).area]
    maxOpen := fun l => by rw [(dropEntry_areasStand s k r i).area]
    listed := fun l => by
      rw [listed, list]
      split
      · exact List.eraseP_sublist.map _
      · exact .refl _
    gate := fun j => by
      rw [input]
      split
      · next same =>
        subst same
        refine iff_of_false (not_open_of_closed rfl) fun ⟨isOpen, stays⟩ => ?_
        obtain ⟨l, mem⟩ := (sound.open_iff i).1 isOpen
        exact gone l (stays l mem)
      · next other => exact ⟨fun isOpen => ⟨isOpen, stays other⟩, And.left⟩
    retained := fun l e mem retained => by
      have other : i ≠ e.input := fun same => gone l (mem_listed.2 ⟨e, mem, same.symm⟩)
      have before : e ∈ (s.area l).list := by
        rw [list] at mem
        split at mem
        · exact List.mem_of_mem_eraseP mem
        · exact mem
      exact ⟨by rw [input, if_neg other], e, before, rfl, retained⟩ }

/-- R34: entries that leave a list one after the other, where no other list names their inputs. -/
theorem dropEntries_listsShrink {r : ListReason} : ∀ {is : List (Fin 24)} {s : State}, EntriesSound s →
    (∀ i ∈ is, ∀ l, i ∈ listed s l → l = k) →
      ListsShrink s (s.dropEntries k r is) ∧ ∀ i ∈ is, i ∉ listed (s.dropEntries k r is) k
  | [], s, _, _ => ⟨.refl s, nofun⟩
  | j :: is, s, sound, only => by
    have dropped := dropEntry_listsShrink sound (only j List.mem_cons_self) r
    obtain ⟨later, gone⟩ := dropEntries_listsShrink (r := r) (is := is) (dropped.entriesSound sound)
      fun i mem l named => only i (List.mem_cons_of_mem _ mem) l ((dropped.listed l).subset named)
    refine ⟨dropped.trans later, fun i mem => ?_⟩
    rcases List.mem_cons.1 mem with rfl | mem
    · exact fun named => dropEntry_not_listed sound r ((later.listed k).subset named)
    · exact gone i mem

/-- R48, R61: the retained entries leave, and none is left. -/
theorem releaseRetained_listsShrink (sound : EntriesSound s) (k : Area) :
    ListsShrink s (s.releaseRetained k) ∧ ∀ e ∈ ((s.releaseRetained k).area k).list, e.retained = false := by
  obtain ⟨shrinks, gone⟩ := dropEntries_listsShrink (k := k) (r := .released)
    (is := ((s.area k).list.filter fun e => e.retained).map fun e => e.input) sound fun i mem l named => by
      obtain ⟨e, e_mem, rfl⟩ := List.mem_map.1 mem
      exact sound.only_list (sound.own_area k _ (mem_listed_of_mem (List.mem_filter.1 e_mem).1)) l named
  refine ⟨shrinks, fun e mem => Bool.eq_false_iff.2 fun retained => ?_⟩
  obtain ⟨_, f, f_mem, same, f_retained⟩ := shrinks.retained k e mem retained
  exact gone f.input (List.mem_map_of_mem (List.mem_filter.2 ⟨f_mem, f_retained⟩)) (same ▸ mem_listed_of_mem mem)

theorem releaseIf_listsShrink (sound : EntriesSound s) (c : Prop) [Decidable c] (k : Area) :
    ListsShrink s (if c then s.releaseRetained k else s) :=
  .ite (releaseRetained_listsShrink sound k).1 (.refl s)

/-- R47: entries leave one after the other, as many as asked for while there are some. -/
theorem shed_listsShrink (k : Area) (r : ListReason) : ∀ (n : Nat) {s : State}, EntriesSound s →
    ListsShrink s (s.shed k r n) ∧ ((s.shed k r n).area k).list.length = (s.area k).list.length - n
  | 0, s, _ => ⟨.refl s, rfl⟩
  | n + 1, s, sound => by
    unfold State.shed
    split
    · next none => exact ⟨.refl s, by rw [firstVictim_eq_none_iff.1 none, List.length_nil, Nat.zero_sub]⟩
    · next e first =>
      have mem := firstVictim_mem s first
      have dropped := dropEntry_listsShrink sound
        (sound.only_list (sound.own_area k _ (mem_listed_of_mem mem))) r
      obtain ⟨later, length⟩ := shed_listsShrink k r n (dropped.entriesSound sound)
      refine ⟨dropped.trans later, ?_⟩
      rw [length, dropEntry_list, if_pos rfl, List.length_eraseP_of_mem mem (by simp)]
      omega

/-- R47: a list is brought within its area's max open. -/
theorem shedToMaxOpen_listsShrink (sound : EntriesSound s) (k : Area) (r : ListReason) :
    ListsShrink s (s.shedToMaxOpen k r) ∧ WithinMaxOpen (s.shedToMaxOpen k r) k := by
  obtain ⟨shrinks, length⟩ := shed_listsShrink k r ((s.area k).list.length - (s.area k).settings.maxOpen) sound
  refine ⟨shrinks, fun _ => ?_⟩
  rw [State.shedToMaxOpen, length, shrinks.maxOpen]
  omega

/-- R47, R48, R61: what new settings do to a list. -/
theorem applySettings_listsShrink (sound : EntriesSound s) (k : Area) (old : AreaSettings) :
    ListsShrink s (s.applySettings k old) ∧ WithinMaxOpen (s.applySettings k old) k := by
  have released (t : State) (sound : EntriesSound t) (c d : Prop) [Decidable c] [Decidable d] :
      ListsShrink t (if d then (if c then t.releaseRetained k else t).releaseRetained k
        else if c then t.releaseRetained k else t) := by
    have first := releaseIf_listsShrink sound c k
    exact first.trans (releaseIf_listsShrink (first.entriesSound sound) d k)
  obtain ⟨shed, within⟩ := shedToMaxOpen_listsShrink sound k .reduced
  have later := released _ (shed.entriesSound sound)
  exact ⟨shed.trans (later ..), (later ..).withinMaxOpen within⟩

theorem dropAndRetarget_listsShrink (sound : EntriesSound s) (only : ∀ l, i ∈ listed s l → l = k) (r : ListReason) :
    ListsShrink s (s.dropAndRetarget k r i) :=
  (dropEntry_listsShrink sound only r).trans (retarget_listsShrink ..)

/-- R50, step 2: a retained entry, the only one of its list, gives way, and none is left. -/
theorem giveWay_listsShrink (sound : EntriesSound s) (alone : RetainedAlone s k) :
    ListsShrink s (s.giveWay k) ∧ ∀ e ∈ ((s.giveWay k).area k).list, e.retained = false := by
  unfold State.giveWay
  split
  · next none => exact ⟨.refl s, fun e mem => by simpa using List.find?_eq_none.1 none e mem⟩
  · next e found =>
    have mem := List.mem_of_find?_eq_some found
    have retained : e.retained = true := List.find?_some found
    refine ⟨dropAndRetarget_listsShrink sound (sound.only_list (sound.own_area k _ (mem_listed_of_mem mem))) _, ?_⟩
    have list : ((s.dropAndRetarget k .released e.input).area k).list = (s.area k).list.eraseP fun f => f.input == e.input :=
      (dropEntry_list ..).trans (if_pos rfl)
    have length := List.length_eraseP_of_mem (p := fun f => f.input == e.input) mem (by simp)
    have empty : (s.area k).list.eraseP (fun f => f.input == e.input) = [] := by
      rw [alone e mem retained] at length
      exact List.length_eq_zero_iff.1 length
    rw [list, empty]
    exact nofun

/-- R25: a withdrawal takes an input out of every list. -/
theorem withdraw_listsShrink (sound : EntriesSound s) (i : Fin 24) :
    ListsShrink s (s.withdraw i) ∧ ∀ k, i ∉ listed (s.withdraw i) k := by
  have listed_of_entry := isEntry_iff (i := i) sound.own_area
  cases entry : s.isEntry i with
  | false =>
    have unlisted (k : Area) (mem : i ∈ listed s k) : False :=
      Bool.false_ne_true (entry.symm.trans (listed_of_entry.2 ⟨k, mem⟩))
    rw [withdraw_of_not_entry entry]
    exact ⟨closeGate_listsShrink sound unlisted, unlisted⟩
  | true =>
    obtain ⟨k, area⟩ := inputArea_of_isEntry entry
    have only := sound.only_list area
    have shrinks := dropEntry_listsShrink sound only .withdrawn
    rw [withdraw_of_entry area entry]
    refine ⟨shrinks, fun l mem => ?_⟩
    obtain rfl := only l ((shrinks.listed l).subset mem)
    exact dropEntry_not_listed sound _ mem

end

end Sys2Proof.Machine
end

section
/-! SUPPORT. R32, R50 to R55: admissions, quiet and loud frames and hold expiries keep the open lists sound and leave the
join map as it is. -/

namespace Sys2Proof.Machine

open Sys2Proof.Safety

/-- Sound open lists stay sound, and the join map stands. -/
structure ListsKept (s t : State) : Prop where
  kept : ListsSound s → ListsSound t ∧ ∀ k, (t.area k).joinedInto = (s.area k).joinedInto

section
variable {s t u : State} {i : Fin 24} {k : Area}

theorem ListsKept.refl (s : State) : ListsKept s s := ⟨fun sound => ⟨sound, fun _ => rfl⟩⟩

theorem ListsKept.trans (h : ListsKept s t) (k : ListsKept t u) : ListsKept s u := by
  refine ⟨fun sound => ?_⟩
  obtain ⟨sound, joined⟩ := h.kept sound
  obtain ⟨sound', joined'⟩ := k.kept sound
  exact ⟨sound', fun l => (joined' l).trans (joined l)⟩

theorem ListsKept.ite {c : Prop} [Decidable c] (h : ListsKept s t) (k : ListsKept s u) :
    ListsKept s (if c then t else u) := by
  split
  · exact h
  · exact k

theorem ListsKept.of_sound (h : ListsSound s → ListsKept s t) : ListsKept s t := ⟨fun sound => (h sound).kept sound⟩

theorem ListsShrink.listsKept (h : ListsShrink s t) : ListsKept s t := ⟨fun sound => ⟨h.listsSound sound, h.joined⟩⟩

/-- Inputs and areas that stand whole. -/
theorem ListsKept.of_same (inputs : t.inputs = s.inputs) (areas : t.areas = s.areas) : ListsKept s t :=
  (ListsShrink.of_unchanged (fun _ => by rw [State.input, inputs, State.input])
    fun _ => by rw [State.area, areas, State.area]).listsKept

theorem entriesSound_of (sound : ListsSound s) : EntriesSound s := (listsSound_iff.1 sound).1

/-- An operation at which no entry comes, wherever the entries are sound. -/
theorem ListsKept.of_shrink (h : EntriesSound s → ListsShrink s t) : ListsKept s t :=
  .of_sound fun sound => (h (entriesSound_of sound)).listsKept

/-! ### Entries that come (R44, R50, R51) -/

/-- R44: the entry that an admission appends. -/
def State.newEntry (s : State) (k : Area) (i : Fin 24) (p : Nat) (l : Int) : Entry :=
  { input := i, priority := p, stamp := s.stamp, retained := false, hold := 0, openingLevel := l,
    ticked := (s.area k).tickTaken }

variable (s) in
theorem appendEntry_area (k : Area) (i : Fin 24) (p : Nat) (l : Int) (m : Area) :
    (s.appendEntry k i p l).area m
      = if k = m then { s.area m with list := (s.area m).list ++ [s.newEntry k i p l] } else s.area m := by
  have area : (s.appendEntry k i p l).area m = (s.setList k ((s.area k).list ++ [s.newEntry k i p l])).area m :=
    raise_area ..
  rw [area, State.setList, setArea_area]
  split
  · next same => rw [same]
  · rfl

variable (s) in
theorem appendEntry_input (k : Area) (i : Fin 24) (p : Nat) (l : Int) (j : Fin 24) :
    ((s.appendEntry k i p l).input j).settings = (s.input j).settings
      ∧ ((s.appendEntry k i p l).input j).gate = if i = j then .opened else (s.input j).gate := by
  rw [State.appendEntry, State.raiseListChange, raise_input, retarget_input, setInput_input]
  split
  · next same => subst same; exact ⟨rfl, rfl⟩
  · exact ⟨rfl, rfl⟩

/-- R50: a GATED input of an effective area, whose gate is not open. -/
structure MayEnter (s : State) (k : Area) (i : Fin 24) : Prop where
  area : s.inputArea i = some k
  gated : (s.input i).settings.mode = .gated
  shut : ¬ (s.input i).Open

theorem MayEnter.of_shrink (may : MayEnter s k i) (shrinks : ListsShrink s t)
    (settings : (t.input i).settings = (s.input i).settings) : MayEnter t k i where
  area := (inputArea_congr (by rw [settings]) shrinks.joined).trans may.area
  gated := by rw [settings]; exact may.gated
  shut isOpen := may.shut ((shrinks.gate i).1 isOpen).1

/-- R50, R51: an input that is no entry is appended to the list of its effective area, where there is room and nothing
retained. -/
theorem appendEntry_listsKept (may : MayEnter s k i) (fresh : ∀ e ∈ (s.area k).list, e.retained = false)
    (room : s.inUse k = true → (s.area k).list.length < (s.area k).settings.maxOpen) (p : Nat) (l : Int) :
    ListsKept s (s.appendEntry k i p l) := by
  refine ⟨fun sound => ?_⟩
  obtain ⟨entries, alone, within⟩ := listsSound_iff.1 sound
  have input := appendEntry_input s k i p l
  have at_area := appendEntry_area s k i p l
  have joined (m : Area) : ((s.appendEntry k i p l).area m).joinedInto = (s.area m).joinedInto := by
    rw [at_area]; split <;> rfl
  have areas (j : Fin 24) : (s.appendEntry k i p l).inputArea j = s.inputArea j :=
    inputArea_congr (by rw [(input j).1]) joined
  have named (m : Area) (j : Fin 24) : j ∈ listed (s.appendEntry k i p l) m ↔ j ∈ listed s m ∨ k = m ∧ j = i := by
    rw [listed, at_area]
    split
    · next same => simp [listed, State.newEntry, same]
    · next other => simp [listed, other]
  have unlisted := entries.not_listed may.shut
  have inUse (m : Area) : (s.appendEntry k i p l).inUse m = s.inUse m := by rw [State.inUse, joined, State.inUse]
  refine ⟨listsSound_iff.2 ⟨⟨fun m j mem => ?own, fun m j mem => ?gated, fun j => ?open_, fun m => ?nodup,
    fun m e mem retained => ?holds⟩, fun m e mem retained => ?alone, fun m use => ?within⟩, joined⟩
  case own =>
    rw [areas]
    rcases (named m j).1 mem with mem | ⟨rfl, rfl⟩
    · exact entries.own_area m j mem
    · exact may.area
  case gated =>
    rw [(input j).1]
    rcases (named m j).1 mem with mem | ⟨rfl, rfl⟩
    · exact entries.gated m j mem
    · exact may.gated
  case open_ =>
    simp only [named]
    by_cases same : i = j
    · subst same
      exact iff_of_true (.inl (by rw [(input i).2, if_pos rfl])) ⟨k, .inr ⟨rfl, rfl⟩⟩
    · have gate : ((s.appendEntry k i p l).input j).gate = (s.input j).gate := by rw [(input j).2, if_neg same]
      rw [Input.Open.congr gate, entries.open_iff]
      simp [Ne.symm same]
  case nodup =>
    rw [listed, at_area]
    split
    · next same =>
      subst same
      rw [List.map_append]
      exact List.nodup_append'.2 ⟨entries.no_repeats k, List.nodup_singleton _,
        List.disjoint_singleton.2 (unlisted k)⟩
    · exact entries.no_repeats m
  case holds =>
    have before : e ∈ (s.area m).list := by
      rw [at_area] at mem
      split at mem
      · exact (List.mem_append.1 mem).resolve_right fun new => by
          rw [List.mem_singleton.1 new] at retained; cases retained
      · exact mem
    have other : i ≠ e.input := fun same => unlisted m (same ▸ mem_listed_of_mem before)
    rw [holds_iff, (input _).2, if_neg other]
    exact holds_iff.1 (entries.retained_holds m e before retained)
  case alone =>
    rw [at_area] at mem ⊢
    split at mem
    · next same =>
      subst same
      rcases List.mem_append.1 mem with mem | new
      · exact absurd retained (by simp [fresh e mem])
      · rw [List.mem_singleton.1 new] at retained; cases retained
    · next other => rw [if_neg other]; exact alone m e mem retained
  case within =>
    rw [inUse] at use
    rw [at_area]
    split
    · next same => subst same; simpa using room use
    · exact within m use

variable (s) in
theorem dropAndRetarget_settings (k : Area) (r : ListReason) (i j : Fin 24) :
    ((s.dropAndRetarget k r i).input j).settings = (s.input j).settings := by
  rw [State.dropAndRetarget, retarget_input, dropEntry_input]
  split <;> rfl

variable (s) in
theorem giveWay_settings (k : Area) (j : Fin 24) : ((s.giveWay k).input j).settings = (s.input j).settings := by
  unfold State.giveWay
  split
  · rfl
  · exact dropAndRetarget_settings ..

/-- R50: with no room, the entry that is evicted makes room for the one that comes. -/
theorem evict_listsKept (may : MayEnter s k i) (fresh : ∀ e ∈ (s.area k).list, e.retained = false) {e : Entry}
    (mem : e ∈ (s.area k).list) (p : Nat) (l : Int) :
    ListsKept s ((s.dropAndRetarget k .evicted e.input).appendEntry k i p l) := by
  refine .of_sound fun sound => ?_
  obtain ⟨entries, _, within⟩ := listsSound_iff.1 sound
  have dropped := dropAndRetarget_listsShrink entries
    (entries.only_list (entries.own_area k _ (mem_listed_of_mem mem))) .evicted
  have list : ((s.dropAndRetarget k .evicted e.input).area k).list = (s.area k).list.eraseP fun f => f.input == e.input :=
    (dropEntry_list ..).trans (if_pos rfl)
  refine dropped.listsKept.trans (appendEntry_listsKept (may.of_shrink dropped (dropAndRetarget_settings ..))
    (dropped.noneRetained fresh) (fun inUse => ?_) p l)
  have bound := within k (by rwa [inUse_iff, ← dropped.joined, ← inUse_iff])
  have some := List.length_pos_of_mem mem
  rw [list, dropped.maxOpen, List.length_eraseP_of_mem mem (by simp)]
  omega

/-- R50, R51: an admission request settled at the list of the input's effective area. -/
theorem settleRequest_listsKept (may : MayEnter s k i) (p : Nat) (l : Int) : ListsKept s (s.settleRequest k i p l) := by
  have denied {t : State} (may : MayEnter t k i) : ListsKept t (t.denyGate i) :=
    .of_shrink fun sound => denyGate_listsShrink sound (sound.not_listed may.shut)
  unfold State.settleRequest
  refine .ite (denied may) (.of_sound fun sound => ?_)
  obtain ⟨entries, alone, _⟩ := listsSound_iff.1 sound
  obtain ⟨gave, fresh⟩ := giveWay_listsShrink entries (alone k)
  have may := may.of_shrink gave (giveWay_settings ..)
  refine gave.listsKept.trans ?_
  dsimp only
  split
  · next room => exact (appendEntry_listsKept may fresh (fun _ => room) p l).trans (updateNom_listsShrink ..).listsKept
  · split
    · exact denied may
    · next victim =>
      exact (evict_listsKept may fresh (List.mem_filter.1 (firstVictim_mem _ victim)).1 p l).trans
        (updateNom_listsShrink ..).listsKept

/-- R32: an admission request of a GATED input whose gate is not open. -/
theorem requestAdmission_listsKept (gated : (s.input i).settings.mode = .gated) (shut : ¬ (s.input i).Open) :
    ListsKept s (s.requestAdmission i) := by
  unfold State.requestAdmission
  split
  · exact .of_shrink fun sound => denyGate_listsShrink sound (sound.not_listed shut)
  · next area => exact settleRequest_listsKept ⟨area, gated, shut⟩ ..

/-! ### Hold expiries (R54, R55) -/

/-- R55: an input that no list but one may name, and that is HOLDING where that one does. -/
def Expiring (s : State) (k : Area) (i : Fin 24) : Prop :=
  ∀ l, i ∈ listed s l → l = k ∧ (s.input i).gate = .holding

/-- R55: the entry of a HOLDING input that is the only one of its list becomes retained. -/
theorem retain_listsKept (expiring : Expiring s k i) (alone : (s.area k).list.length = 1) :
    ListsKept s (s.updateEntry k i fun e => { e with retained := true, hold := 0 }) := by
  refine ⟨fun sound => ?_⟩
  obtain ⟨entries, sole, within⟩ := listsSound_iff.1 sound
  have list := updateEntry_list s k i fun e => { e with retained := true, hold := 0 }
  generalize updated : s.updateEntry k i (fun e => { e with retained := true, hold := 0 }) = t at list ⊢
  have stand : AreasStand s t := updated ▸ updateEntry_areasStand ..
  have joined (l : Area) : (t.area l).joinedInto = (s.area l).joinedInto := by rw [stand.area]
  have input (j : Fin 24) : t.input j = s.input j := updated ▸ rfl
  have areas (j : Fin 24) : t.inputArea j = s.inputArea j := inputArea_congr (by rw [input]) joined
  have named (l : Area) : listed t l = listed s l := by
    rw [listed, list]
    split
    · rw [List.map_map]
      refine List.map_congr_left fun e _ => ?_
      dsimp only [Function.comp]
      split <;> rfl
    · rfl
  have length (l : Area) : (t.area l).list.length = (s.area l).list.length := by
    rw [← length_listed, named, length_listed]
  have retained {l : Area} {e : Entry} (mem : e ∈ (t.area l).list) (retained : e.retained = true) :
      (l = k ∧ (s.input e.input).gate = .holding) ∨ e ∈ (s.area l).list := by
    rw [list] at mem
    split at mem
    · next same =>
      obtain ⟨f, f_mem, rfl⟩ := List.mem_map.1 mem
      split
      · next own =>
        have own : f.input = i := by simpa using own
        obtain ⟨same, holding⟩ := expiring l (own ▸ mem_listed_of_mem f_mem)
        exact .inl ⟨same, own ▸ holding⟩
      · exact .inr f_mem
    · exact .inr mem
  refine ⟨listsSound_iff.2 ⟨⟨fun l j mem => ?_, fun l j mem => ?_, fun j => ?_, fun l => ?_, fun l e mem r => ?_⟩,
    fun l e mem r => ?_, fun l use => ?_⟩, joined⟩
  · rw [areas]; exact entries.own_area l j (named l ▸ mem)
  · rw [input]; exact entries.gated l j (named l ▸ mem)
  · simp only [input, named]; exact entries.open_iff j
  · rw [named]; exact entries.no_repeats l
  · rw [holds_iff, input]
    rcases retained mem r with ⟨_, holding⟩ | before
    · exact holding
    · exact holds_iff.1 (entries.retained_holds l e before r)
  · rw [length]
    rcases retained mem r with ⟨rfl, _⟩ | before
    · exact alone
    · exact sole l e before r
  · rw [length, stand.area]
    exact within l (by rwa [inUse_iff, ← joined, ← inUse_iff])

theorem expireHold_listsKept (expiring : Expiring s k i) : ListsKept s (s.expireHold k i) := by
  unfold State.expireHold
  split
  · next retains =>
    simp only [State.retains, Bool.and_eq_true, decide_eq_true_eq] at retains
    exact retain_listsKept expiring retains.1.2
  · exact .of_shrink fun sound => dropAndRetarget_listsShrink sound (fun l mem => (expiring l mem).1) .expired

/-- R55: another input that expires does so still. -/
theorem Expiring.expireHold {j : Fin 24} (sound : EntriesSound s) (expiring : Expiring s k i) (other : Expiring s k j) :
    Expiring (s.expireHold k i) k j := by
  unfold State.expireHold
  split
  · intro l mem
    refine other l ?_
    rw [listed, updateEntry_list] at mem
    split at mem
    · rw [List.map_map] at mem
      obtain ⟨e, e_mem, own⟩ := List.mem_map.1 mem
      refine mem_listed.2 ⟨e, e_mem, own ▸ ?_⟩
      dsimp only [Function.comp]
      split <;> rfl
    · exact mem
  · intro l mem
    have dropped := dropAndRetarget_listsShrink sound (fun l mem => (expiring l mem).1) .expired
    obtain ⟨rfl, holding⟩ := other l ((dropped.listed l).subset mem)
    refine ⟨rfl, ?_⟩
    have stays : i ≠ j := fun same => dropEntry_not_listed sound .expired (same ▸ mem)
    rw [State.dropAndRetarget, retarget_input, if_neg stays, dropEntry_input, if_neg stays]
    exact holding

/-- R54: holds that end in one tick, taken one after the other. -/
theorem expireHolds_listsKept (k : Area) : ∀ (is : List (Fin 24)) {s : State}, (∀ i ∈ is, Expiring s k i) →
    ListsKept s (is.foldl (fun s i => s.expireHold k i) s)
  | [], s, _ => .refl s
  | i :: is, s, expiring => .of_sound fun sound => by
    have first := expiring i List.mem_cons_self
    exact (expireHold_listsKept first).trans (expireHolds_listsKept k is fun j mem =>
      first.expireHold (entriesSound_of sound) (expiring j (List.mem_cons_of_mem _ mem)))

variable (s) in
theorem holdTick_listsKept (k : Area) : ListsKept s (s.holdTick k) := by
  unfold State.holdTick
  refine .ite (.of_sound fun sound => ?_) (.refl s)
  have entries := entriesSound_of sound
  have ticked : ListsShrink s (s.setArea k { s.area k with list := (s.area k).list.map s.tickedEntry, tickTaken := true }) :=
    setArea_entries_listsShrink rfl rfl rfl (fun _ => rfl) fun _ => id
  refine (ticked.listsKept.trans (expireHolds_listsKept k _ fun i mem l named => ?_)).trans
    (updateNom_listsShrink ..).listsKept
  obtain ⟨e, e_mem, rfl⟩ := List.mem_map.1 mem
  obtain ⟨here, runs⟩ := List.mem_filter.1 e_mem
  simp only [State.holdRuns, Bool.and_eq_true] at runs
  exact ⟨entries.only_list (entries.own_area k _ (mem_listed_of_mem here)) l ((ticked.listed l).subset named),
    holds_iff.1 runs.1.1.1⟩

variable (s) in
theorem holdExpiry_listsKept (i : Fin 24) : ListsKept s (s.holdExpiry i) := by
  unfold State.holdExpiry
  split
  · exact .refl s
  · next k area =>
    split
    · next due =>
      refine .of_sound fun sound => (expireHold_listsKept fun l named => ?_).trans (updateNom_listsShrink ..).listsKept
      obtain ⟨e, _, here⟩ := List.any_eq_true.1 due
      simp only [Bool.and_eq_true, beq_iff_eq] at here
      obtain ⟨⟨⟨own, holding⟩, _⟩, _⟩ := here
      exact ⟨(entriesSound_of sound).only_list area l named, own ▸ holds_iff.1 holding⟩
    · exact .refl s

/-! ### One frame at an input (R30 to R33, R53) -/

/-- An input whose gate stays open, and which has no retained entry. -/
theorem setGate_listsShrink {gate : GateState} (before : (s.input i).Open) (after : gate = .opened ∨ gate = .holding)
    (none : ∀ k e, e ∈ (s.area k).list → e.input = i → e.retained = false) : ListsShrink s (s.setGate i gate) where
  settings _ j _ := by
    have settings : ((s.setGate i gate).input j).settings = (s.input j).settings :=
      setInput_settings (y := { s.input i with gate }) rfl j
    rw [settings]
    exact ⟨rfl, rfl⟩
  joined _ := rfl
  maxOpen _ := rfl
  listed _ := .refl _
  gate j := by
    have stays : ∀ k, j ∈ listed s k → j ∈ listed (s.setGate i gate) k := fun _ => id
    rw [State.setGate, setInput_input]
    split
    · next same => subst same; exact iff_of_true after ⟨before, stays⟩
    · exact ⟨fun isOpen => ⟨isOpen, stays⟩, And.left⟩
  retained k e mem retained := by
    have other : i ≠ e.input := fun same => Bool.false_ne_true ((none k e mem same.symm).symm.trans retained)
    rw [State.setGate, setInput_input, if_neg other]
    exact ⟨rfl, e, mem, rfl, retained⟩

/-- R33, R53: a quiet frame of an OPEN input. -/
theorem quietFrame_listsKept (opened : (s.input i).gate = .opened) : ListsKept s (s.quietFrame i) := by
  refine .of_sound fun sound => ?_
  have entries := entriesSound_of sound
  obtain ⟨k, mem⟩ := (entries.open_iff i).1 (.inl opened)
  have area := entries.own_area k i mem
  simp only [State.quietFrame, area]
  generalize timeCodeMs (s.input i).settings.holdCode = hold
  have held : ListsShrink s (s.updateEntry k i fun e => { e with hold }) :=
    updateEntry_listsShrink (fun _ => rfl) fun _ => id
  have holding : ListsShrink s ((s.updateEntry k i fun e => { e with hold }).setGate i .holding) := by
    refine held.trans (setGate_listsShrink (.inl opened) (.inr rfl) fun l e mem own => Bool.eq_false_iff.2 fun retained => ?_)
    have holds := holds_iff.1 ((held.entriesSound entries).retained_holds l e mem retained)
    rw [own] at holds
    exact GateState.noConfusion (opened.symm.trans holds)
  have gate : (((s.updateEntry k i fun e => { e with hold }).setGate i .holding).input i).gate = .holding := by
    rw [State.setGate, setInput_input_self]
  refine .ite (holding.listsKept.trans ((expireHold_listsKept fun l named => ?_).trans (updateNom_listsShrink ..).listsKept))
    holding.listsKept
  exact ⟨entries.only_list area l ((holding.listed l).subset named), gate⟩

/-- R33, R53: a loud frame of a HOLDING input, which is retained no more. -/
theorem loudFrame_listsKept (holding : (s.input i).gate = .holding) : ListsKept s (s.loudFrame i) := by
  refine .of_shrink fun entries => ?_
  obtain ⟨k, mem⟩ := (entries.open_iff i).1 (.inr holding)
  have area := entries.own_area k i mem
  simp only [State.loudFrame, area]
  have freed : ListsShrink s (s.updateEntry k i fun e => { e with retained := false, hold := 0 }) :=
    updateEntry_listsShrink (fun _ => rfl) nofun
  refine freed.trans (setGate_listsShrink (.inr holding) (.inl rfl) fun l e mem own => ?_)
  obtain rfl := entries.only_list area l ((freed.listed l).subset (mem_listed.2 ⟨e, mem, own⟩))
  rw [updateEntry_list, if_pos rfl] at mem
  obtain ⟨f, _, rfl⟩ := List.mem_map.1 mem
  split at own
  · next same => rw [if_pos same]
  · next other => exact absurd own (by simpa using other)

/-- R31: a loud frame of a CLOSED or QUALIFYING input. -/
theorem qualify_listsKept (gated : (s.input i).settings.mode = .gated) (shut : ¬ (s.input i).Open) (count : Nat) :
    ListsKept s (s.qualify i count) := by
  have closed (x : Input) : ¬ ({ x with gate := .qualifying, qualifying := count } : Input).Open := by simp [Input.Open]
  have counted : ListsKept s (s.setInput i { s.input i with gate := .qualifying, qualifying := count }) :=
    .of_shrink fun sound => setInput_unlisted_listsShrink sound (sound.not_listed shut) (closed _)
  refine .ite (counted.trans (requestAdmission_listsKept ?_ ?_)) counted
  · rw [setInput_input_self]; exact gated
  · rw [setInput_input_self]; exact closed _

theorem gateAct_listsKept (gated : (s.input i).settings.mode = .gated) (band : Band) : ListsKept s (s.gateAct i band) := by
  have close (shut : ¬ (s.input i).Open) : ListsKept s (s.closeGate i) :=
    .of_shrink fun sound => closeGate_listsShrink sound (sound.not_listed shut)
  have shut {gate : GateState} (is : (s.input i).gate = gate) (other : gate ≠ .opened ∧ gate ≠ .holding) :
      ¬ (s.input i).Open := fun isOpen => isOpen.elim (fun o => other.1 (is.symm.trans o)) fun o => other.2 (is.symm.trans o)
  unfold State.gateAct
  split
  · next gate => exact qualify_listsKept gated (shut gate (by decide)) _
  · exact .refl s
  · next gate => exact qualify_listsKept gated (shut gate (by decide)) _
  · next gate _ => exact close (shut gate (by decide))
  · next gate => exact requestAdmission_listsKept gated (shut gate (by decide))
  · next gate _ => exact close (shut gate (by decide))
  · next gate => exact quietFrame_listsKept gate
  · exact .refl s
  · next gate => exact loudFrame_listsKept gate
  · exact .refl s

@[simp] theorem hear_gate (x : Input) (samples : List Int) : (x.hear samples).gate = x.gate := by rw [Input.hear]

@[simp] theorem track_gate (x : Input) (level : Int) : (x.track level).gate = x.gate := by
  unfold Input.track
  split_ifs <;> rfl

@[simp] theorem stepGain_gate (x : Input) (depth : Int) : (x.stepGain depth).gate = x.gate := by
  unfold Input.stepGain
  split_ifs <;> rfl

variable (s) in
theorem inputFrame_listsKept (i : Fin 24) (samples : List Int) : ListsKept s (s.inputFrame i samples) := by
  have heard : ListsKept s (s.setInput i ((s.input i).hear samples)) :=
    (setInput_listsShrink (hear_settings ..) (hear_gate ..)).listsKept
  have gated (t : State) : ListsKept t (t.gateStage i) := by
    unfold State.gateStage
    split
    · next gated => exact gateAct_listsKept gated _
    · exact .refl t
  have tracked (t : State) (gate : GateState) : ListsKept t (t.trackStage i gate) :=
    .ite (setInput_listsShrink (track_settings ..) (track_gate ..)).listsKept (.refl t)
  exact ListsKept.trans (.ite heard ((heard.trans (gated _)).trans (tracked ..)))
    (setInput_listsShrink (stepGain_settings ..) (stepGain_gate ..)).listsKept

end

end Sys2Proof.Machine
end

section
/-! SUPPORT. R93 to R100, R104: joins, splits and changes of the join map keep the entries sound, the retained ones alone
and the map valid. -/

namespace Sys2Proof.Machine

open Sys2Proof.Safety

/-- R43, R93: the entries are sound, retained entries stand alone, and the live join map is valid. The lists may be longer
than their max opens. -/
structure ListsHeld (s : State) : Prop where
  entries : EntriesSound s
  alone : ∀ k, RetainedAlone s k
  map : LiveMapValid s

section
variable {s t : State} {x y : Area}

theorem ListsShrink.listsHeld (h : ListsShrink s t) (held : ListsHeld s) : ListsHeld t where
  entries := h.entriesSound held.entries
  alone k := h.retainedAlone (held.alone k)
  map := h.liveMapValid held.map

/-! ### Two lists written with a join map entry (R96, R99) -/

/-- R96, R99: the join map entry of an area written, and its list and that of another area replaced. -/
def State.relaid (s : State) (x : Area) (lead : Option Area) (own : List Entry) (y : Area) (others : List Entry) : State :=
  ((s.setJoin x lead).setList x own).setList y others

variable (s) in
theorem relaid_area (x : Area) (lead : Option Area) (own : List Entry) (y : Area) (others : List Entry) (k : Area) :
    (s.relaid x lead own y others).area k
      = { s.area k with joinedInto := if x = k then lead else (s.area k).joinedInto,
                        list := if y = k then others else if x = k then own else (s.area k).list } := by
  simp only [State.relaid, State.setList, State.setJoin, setArea_area]
  by_cases hx : x = k
  · subst hx
    by_cases hy : y = x
    · subst hy; simp
    · simp [hy]
  · by_cases hy : y = k
    · subst hy; simp [hx]
    · simp [hx, hy]

variable (s) in
theorem relaid_leadOf (x : Area) (lead : Option Area) (own : List Entry) (y : Area) (others : List Entry) (k : Area) :
    (s.relaid x lead own y others).leadOf k = if x = k then lead.getD k else s.leadOf k := by
  rw [State.leadOf, relaid_area]
  dsimp only
  split <;> rfl

variable (s) in
theorem relaid_listed (x : Area) (lead : Option Area) (own : List Entry) (y : Area) (others : List Entry) (k : Area) :
    listed (s.relaid x lead own y others) k = if y = k then others.map (fun e => e.input)
      else if x = k then own.map (fun e => e.input) else listed s k := by
  rw [listed, relaid_area]
  dsimp only
  split
  · rfl
  · split <;> rfl

/-- Entries that stand in other lists, each still in the list of its input's effective area, stay sound. -/
theorem EntriesSound.of_relisted (sound : EntriesSound s) (input : ∀ i, t.input i = s.input i)
    (own : ∀ k i, i ∈ listed t k → t.inputArea i = some k) (no_repeats : ∀ k, (listed t k).Nodup)
    (stays : ∀ k i, i ∈ listed s k → ∃ l, i ∈ listed t l)
    (entries : ∀ k e, e ∈ (t.area k).list →
      ∃ l, ∃ f ∈ (s.area l).list, f.input = e.input ∧ f.retained = e.retained) : EntriesSound t := by
  have before {k : Area} {i : Fin 24} (mem : i ∈ listed t k) : ∃ l, i ∈ listed s l := by
    obtain ⟨e, e_mem, rfl⟩ := mem_listed.1 mem
    obtain ⟨l, f, f_mem, same, _⟩ := entries k e e_mem
    exact ⟨l, mem_listed.2 ⟨f, f_mem, same⟩⟩
  refine ⟨own, fun k i mem => ?_, fun i => ?_, no_repeats, fun k e mem retained => ?_⟩
  · obtain ⟨l, mem⟩ := before mem
    rw [input]
    exact sound.gated l i mem
  · rw [input, sound.open_iff]
    exact ⟨fun ⟨k, mem⟩ => stays k i mem, fun ⟨_, mem⟩ => before mem⟩
  · obtain ⟨l, f, f_mem, same, kept⟩ := entries k e mem
    rw [holds_iff, input, ← same]
    exact holds_iff.1 (sound.retained_holds l f f_mem (kept.trans retained))

theorem inputArea_eq_some {i : Fin 24} {k : Area} :
    s.inputArea i = some k ↔ ∃ m, (s.input i).settings.area = some m ∧ s.leadOf m = k := Option.map_eq_some_iff

/-! ### Joins (R95 to R97) -/

/-- R95, steps 2 to 5: X is alone, leads none and is not Y, and Y is alone. -/
structure MayJoin (s : State) (x y : Area) : Prop where
  ne : x ≠ y
  alone : (s.area x).joinedInto = none
  unled : ∀ k, (s.area k).joinedInto ≠ some x
  lead : (s.area y).joinedInto = none

theorem mem_allAreas (k : Area) : k ∈ allAreas := by cases k <;> decide

theorem mayJoin_of_answered (h : s.mayJoin x y = true) : MayJoin s x y := by
  simp only [State.mayJoin, Bool.and_eq_true, decide_eq_true_eq, Bool.not_eq_true', inUse_iff] at h
  obtain ⟨⟨⟨ne, alone⟩, leads⟩, lead⟩ := h
  refine ⟨ne, alone, fun k joined => ?_, lead⟩
  have leading : s.leads x = true := List.any_eq_true.2 ⟨k, mem_allAreas k, by simp [joined]⟩
  exact Bool.false_ne_true (leads.symm.trans leading)

/-- R94: an area that leads none is the effective area of its own inputs alone. -/
theorem eq_of_leadOf_unled (unled : ∀ k, (s.area k).joinedInto ≠ some x) {m : Area} (lead : s.leadOf m = x) : m = x := by
  unfold State.leadOf at lead
  cases joined : (s.area m).joinedInto with
  | none => rwa [joined] at lead
  | some n =>
    rw [joined] at lead
    exact absurd (joined.trans (congrArg some lead)) (unled m)

theorem insertByAge_perm (s : State) (e : Entry) : ∀ entries : List Entry, (s.insertByAge e entries).Perm (e :: entries)
  | [] => .refl _
  | f :: rest => by
    unfold State.insertByAge
    split
    · exact ((insertByAge_perm s e rest).cons f).trans (.swap ..)
    · exact .refl _

/-- R96: a merge leaves the entries of both lists. -/
theorem mergeByAge_perm (s : State) (lead joined : List Entry) : (s.mergeByAge lead joined).Perm (lead ++ joined) := by
  have folded : ∀ (es merged : List Entry),
      (es.foldl (fun merged e => s.insertByAge e merged) merged).Perm (es ++ merged) := by
    intro es
    induction es with
    | nil => exact fun _ => .refl _
    | cons e es ih =>
      exact fun merged => (ih _).trans (((insertByAge_perm s e merged).append_left es).trans List.perm_middle)
  simpa [State.mergeByAge] using folded (lead ++ joined) []

theorem mergeLists_eq (s : State) (x y : Area) : s.mergeLists x y = s.relaid x (some y) [] y
    (s.mergeByAge (s.area y).list ((s.area x).list.map (s.area x).moved)) := rfl

/-- R96: the merged list names the inputs of both. -/
theorem mergeLists_listed (s : State) (x y k : Area) : (listed (s.mergeLists x y) k).Perm
    (if y = k then listed s y ++ listed s x else if x = k then [] else listed s k) := by
  rw [mergeLists_eq, relaid_listed]
  split
  · refine ((mergeByAge_perm ..).map _).trans (.of_eq ?_)
    rw [List.map_append, moved_inputs]
    rfl
  · exact .refl _

theorem mergeLists_entriesSound (may : MayJoin s x y) (sound : EntriesSound s) : EntriesSound (s.mergeLists x y) := by
  obtain ⟨ne, alone, unled, lead⟩ := may
  have named (k : Area) := mergeLists_listed s x y k
  have x_own : s.leadOf x = x := by rw [State.leadOf, alone]; rfl
  have leadOf (m : Area) : (s.mergeLists x y).leadOf m = if x = m then y else s.leadOf m := relaid_leadOf ..
  have moves {i : Fin 24} {l k : Area} (area : s.inputArea i = some l) (goes : l = k ∧ k ≠ x ∨ l = x ∧ k = y) :
      (s.mergeLists x y).inputArea i = some k := by
    obtain ⟨m, own, led⟩ := inputArea_eq_some.1 area
    refine inputArea_eq_some.2 ⟨m, own, ?_⟩
    rw [leadOf]
    rcases goes with ⟨rfl, other⟩ | ⟨rfl, rfl⟩
    · rw [if_neg, led]
      rintro rfl
      exact other (led.symm.trans x_own)
    · rw [if_pos (eq_of_leadOf_unled unled led).symm]
  refine sound.of_relisted (fun _ => rfl) (fun k i mem => ?own) (fun k => ?nodup) (fun k i mem => ?stays)
    fun k e mem => ?entries
  case own =>
    have within := (named k).subset mem
    split at within
    · next same =>
      subst same
      rcases List.mem_append.1 within with mem | mem
      · exact moves (sound.own_area y i mem) (.inl ⟨rfl, ne.symm⟩)
      · exact moves (sound.own_area x i mem) (.inr ⟨rfl, rfl⟩)
    · split at within
      · cases within
      · next other => exact moves (sound.own_area k i within) (.inl ⟨rfl, Ne.symm other⟩)
  case nodup =>
    refine (named k).nodup_iff.2 ?_
    split
    · refine List.nodup_append'.2 ⟨sound.no_repeats y, sound.no_repeats x, fun i in_y in_x => ne ?_⟩
      exact sound.only_list (sound.own_area y i in_y) x in_x
    · split
      · exact List.nodup_nil
      · exact sound.no_repeats k
  case stays =>
    by_cases joined : k = x ∨ k = y
    · refine ⟨y, (named y).mem_iff.2 ?_⟩
      rw [if_pos rfl]
      rcases joined with same | same
      · exact List.mem_append_right _ (same ▸ mem)
      · exact List.mem_append_left _ (same ▸ mem)
    · obtain ⟨not_x, not_y⟩ := not_or.1 joined
      refine ⟨k, (named k).mem_iff.2 ?_⟩
      rwa [if_neg (Ne.symm not_y), if_neg (Ne.symm not_x)]
  case entries =>
    rw [mergeLists_eq, relaid_area] at mem
    dsimp only at mem
    split at mem
    · rcases List.mem_append.1 ((mergeByAge_perm ..).subset mem) with mem | mem
      · exact ⟨y, e, mem, rfl, rfl⟩
      · obtain ⟨f, f_mem, rfl⟩ := List.mem_map.1 mem
        exact ⟨x, f, f_mem, rfl, rfl⟩
    · split at mem
      · cases mem
      · exact ⟨k, e, mem, rfl, rfl⟩

/-- R93: X joined into Y. -/
theorem mergeLists_liveMapValid (may : MayJoin s x y) (valid : LiveMapValid s) : LiveMapValid (s.mergeLists x y) := by
  obtain ⟨ne, alone, unled, lead⟩ := may
  have joined (k : Area) : ((s.mergeLists x y).area k).joinedInto = if x = k then some y else (s.area k).joinedInto := by
    rw [mergeLists_eq, relaid_area]
  intro m n into
  simp only [joined] at into ⊢
  split at into
  · next same =>
    obtain rfl := Option.some.inj into
    subst same
    exact ⟨ne, (if_neg ne).trans lead⟩
  · obtain ⟨other, free⟩ := valid m n into
    refine ⟨other, (if_neg ?_).trans free⟩
    rintro rfl
    exact unled m into

/-- R97: the passes of a join leave Y's list within its max open, with no retained entry in company. -/
theorem joinLists_passes (sound : EntriesSound (s.mergeLists x y)) :
    ListsShrink (s.mergeLists x y) (s.joinLists x y) ∧ RetainedAlone (s.joinLists x y) y
      ∧ WithinMaxOpen (s.joinLists x y) y := by
  have company : ListsShrink (s.mergeLists x y) ((s.mergeLists x y).releaseCompany y)
      ∧ RetainedAlone ((s.mergeLists x y).releaseCompany y) y := by
    obtain ⟨released, none⟩ := releaseRetained_listsShrink sound y
    unfold State.releaseCompany
    split
    · exact ⟨released, fun e mem retained => absurd retained (by simp [none e mem])⟩
    · next few =>
      refine ⟨.refl _, fun e mem _ => ?_⟩
      have some := List.length_pos_of_mem mem
      omega
  obtain ⟨released, alone⟩ := company
  have where_none := releaseIf_listsShrink (released.entriesSound sound)
    (((s.mergeLists x y).releaseCompany y).retainsNone y = true) y
  obtain ⟨shed, within⟩ := shedToMaxOpen_listsShrink (where_none.entriesSound (released.entriesSound sound)) y .overflow
  have later := where_none.trans shed
  exact ⟨released.trans later, later.retainedAlone alone, within⟩

/-- R95 to R97: a join. -/
theorem joinLists_listsHeld (may : MayJoin s x y) (held : ListsHeld s) : ListsHeld (s.joinLists x y) := by
  have merged := mergeLists_entriesSound may held.entries
  obtain ⟨shrinks, alone, _⟩ := joinLists_passes merged
  refine ⟨shrinks.entriesSound merged, fun k => ?_, shrinks.liveMapValid (mergeLists_liveMapValid may held.map)⟩
  by_cases same : k = y
  · subst same; exact alone
  · refine shrinks.retainedAlone fun e mem retained => ?_
    rw [mergeLists_eq, relaid_area] at mem ⊢
    simp only [if_neg (Ne.symm same)] at mem ⊢
    split at mem
    · cases mem
    · next other => rw [if_neg other]; exact held.alone k e mem retained

theorem joinLists_joinedInto (may : MayJoin s x y) (held : ListsHeld s) (k : Area) :
    ((s.joinLists x y).area k).joinedInto = if x = k then some y else (s.area k).joinedInto := by
  obtain ⟨shrinks, _, _⟩ := joinLists_passes (mergeLists_entriesSound may held.entries)
  rw [shrinks.joined, mergeLists_eq, relaid_area]

theorem joinLists_withinMaxOpen (may : MayJoin s x y) (held : ListsHeld s) (within : ∀ k, WithinMaxOpen s k) (k : Area) :
    WithinMaxOpen (s.joinLists x y) k := by
  obtain ⟨shrinks, _, bound⟩ := joinLists_passes (mergeLists_entriesSound may held.entries)
  by_cases same : k = y
  · subst same; exact bound
  · refine shrinks.withinMaxOpen fun inUse => ?_
    rw [inUse_iff, mergeLists_eq, relaid_area] at inUse
    rw [mergeLists_eq, relaid_area]
    dsimp only at inUse ⊢
    rw [if_neg (Ne.symm same)]
    split at inUse
    · cases inUse
    · next other => rw [if_neg other]; exact within k (inUse_iff.2 inUse)

/-! ### Splits (R99, R100) -/

/-- R93: an area that is joined leads none. -/
theorem LiveMapValid.unled (valid : LiveMapValid s) (joined : (s.area x).joinedInto = some y) (k : Area) :
    (s.area k).joinedInto ≠ some x := fun into =>
  Option.some_ne_none y (joined.symm.trans (valid k x into).2)

theorem divideList_eq (s : State) (x y : Area) : s.divideList x y = s.relaid x none
    (((s.area y).list.filter fun e => (s.input e.input).settings.area == some x).map (s.area y).moved) y
    ((s.area y).list.filter fun e => !((s.input e.input).settings.area == some x)) := rfl

/-- R99: Y's list is divided by the areas of its inputs' settings. -/
theorem mem_divideList_listed {k : Area} {i : Fin 24} : i ∈ listed (s.divideList x y) k ↔
    if y = k then i ∈ listed s y ∧ (s.input i).settings.area ≠ some x
    else if x = k then i ∈ listed s y ∧ (s.input i).settings.area = some x
    else i ∈ listed s k := by
  rw [divideList_eq, relaid_listed]
  split
  · simp only [listed, List.mem_map, List.mem_filter, Bool.not_eq_true', beq_eq_false_iff_ne]
    constructor
    · rintro ⟨e, ⟨mem, other⟩, rfl⟩
      exact ⟨⟨e, mem, rfl⟩, other⟩
    · rintro ⟨⟨e, mem, rfl⟩, other⟩
      exact ⟨e, ⟨mem, other⟩, rfl⟩
  · split
    · rw [moved_inputs]
      simp only [listed, List.mem_map, List.mem_filter, beq_iff_eq]
      constructor
      · rintro ⟨e, ⟨mem, own⟩, rfl⟩
        exact ⟨⟨e, mem, rfl⟩, own⟩
      · rintro ⟨⟨e, mem, rfl⟩, own⟩
        exact ⟨e, ⟨mem, own⟩, rfl⟩
    · exact .rfl

theorem divideList_entriesSound (joined : (s.area x).joinedInto = some y) (valid : LiveMapValid s)
    (sound : EntriesSound s) : EntriesSound (s.divideList x y) := by
  have ne : x ≠ y := (valid x y joined).1
  have unled := valid.unled joined
  have x_led : s.leadOf x = y := by rw [State.leadOf, joined]; rfl
  have leadOf (m : Area) : (s.divideList x y).leadOf m = if x = m then m else s.leadOf m := relaid_leadOf ..
  have unlisted (i : Fin 24) : i ∉ listed s x := fun mem => by
    obtain ⟨m, _, led⟩ := inputArea_eq_some.1 (sound.own_area x i mem)
    obtain rfl := eq_of_leadOf_unled unled led
    exact ne (led.symm.trans x_led)
  have stands {i : Fin 24} {k : Area} (area : s.inputArea i = some k) (other : (s.input i).settings.area ≠ some x) :
      (s.divideList x y).inputArea i = some k := by
    obtain ⟨m, own, led⟩ := inputArea_eq_some.1 area
    refine inputArea_eq_some.2 ⟨m, own, ?_⟩
    rw [leadOf, if_neg, led]
    rintro rfl
    exact other own
  refine sound.of_relisted (fun _ => rfl) (fun k i mem => ?own) (fun k => ?nodup) (fun k i mem => ?stays)
    fun k e mem => ?entries
  case own =>
    rw [mem_divideList_listed] at mem
    split at mem
    · next same => subst same; exact stands (sound.own_area y i mem.1) mem.2
    · next not_y =>
      split at mem
      · next same =>
        subst same
        exact inputArea_eq_some.2 ⟨x, mem.2, (leadOf x).trans (if_pos rfl)⟩
      · refine stands (sound.own_area k i mem) fun own => not_y ?_
        have led : s.inputArea i = some y := inputArea_eq_some.2 ⟨x, own, x_led⟩
        exact Option.some.inj (led.symm.trans (sound.own_area k i mem))
  case nodup =>
    have part (p : Entry → Bool) : (((s.area y).list.filter p).map fun e => e.input).Nodup :=
      (sound.no_repeats y).sublist (List.filter_sublist.map _)
    rw [divideList_eq, relaid_listed]
    split
    · exact part _
    · split
      · rw [moved_inputs]; exact part _
      · exact sound.no_repeats k
  case stays =>
    simp only [mem_divideList_listed]
    by_cases same : k = y
    · subst same
      by_cases own : (s.input i).settings.area = some x
      · exact ⟨x, by rw [if_neg ne.symm, if_pos rfl]; exact ⟨mem, own⟩⟩
      · exact ⟨k, by rw [if_pos rfl]; exact ⟨mem, own⟩⟩
    · have other : k ≠ x := fun is => unlisted i (is ▸ mem)
      exact ⟨k, by rwa [if_neg (Ne.symm same), if_neg other.symm]⟩
  case entries =>
    rw [divideList_eq, relaid_area] at mem
    dsimp only at mem
    split at mem
    · exact ⟨y, e, (List.mem_filter.1 mem).1, rfl, rfl⟩
    · split at mem
      · obtain ⟨f, f_mem, rfl⟩ := List.mem_map.1 mem
        exact ⟨y, f, (List.mem_filter.1 f_mem).1, rfl, rfl⟩
      · exact ⟨k, e, mem, rfl, rfl⟩

/-- R99: a retained entry, the only one of Y's list, is the only one wherever it goes. -/
theorem divideList_retainedAlone (alone : ∀ k, RetainedAlone s k) (k : Area) : RetainedAlone (s.divideList x y) k := by
  have part {p : Entry → Bool} {e : Entry} (mem : e ∈ (s.area y).list.filter p) (retained : e.retained = true) :
      ((s.area y).list.filter p).length = 1 := by
    have some := List.length_pos_of_mem mem
    have fewer := List.length_filter_le p (s.area y).list
    have one := alone y e (List.mem_filter.1 mem).1 retained
    omega
  intro e mem retained
  rw [divideList_eq, relaid_area] at mem ⊢
  dsimp only at mem ⊢
  split at mem
  · next same => rw [if_pos same]; exact part mem retained
  · next not_y =>
    rw [if_neg not_y]
    split at mem
    · next same =>
      obtain ⟨f, f_mem, rfl⟩ := List.mem_map.1 mem
      rw [if_pos same, List.length_map]
      exact part f_mem retained
    · next not_x => rw [if_neg not_x]; exact alone k e mem retained

theorem divideList_joinedInto (k : Area) :
    ((s.divideList x y).area k).joinedInto = if x = k then none else (s.area k).joinedInto := by
  rw [divideList_eq, relaid_area]

/-- R93: X alone. -/
theorem divideList_liveMapValid (valid : LiveMapValid s) : LiveMapValid (s.divideList x y) := by
  intro m n into
  simp only [divideList_joinedInto] at into ⊢
  split at into
  · cases into
  · obtain ⟨other, free⟩ := valid m n into
    refine ⟨other, ?_⟩
    split
    · rfl
    · exact free

/-- R100: the passes of a split leave X's list within its max open. -/
theorem splitLists_passes (sound : EntriesSound (s.divideList x y)) :
    ListsShrink (s.divideList x y) (s.splitLists x y) ∧ WithinMaxOpen (s.splitLists x y) x := by
  obtain ⟨shed, within⟩ := shedToMaxOpen_listsShrink sound x .overflow
  have released := releaseIf_listsShrink (shed.entriesSound sound)
    (((s.divideList x y).shedToMaxOpen x .overflow).retainsNone x = true) x
  exact ⟨shed.trans released, released.withinMaxOpen within⟩

/-- R99, R100: a split. -/
theorem splitLists_listsHeld (joined : (s.area x).joinedInto = some y) (held : ListsHeld s) :
    ListsHeld (s.splitLists x y) := by
  have divided := divideList_entriesSound joined held.map held.entries
  exact (splitLists_passes divided).1.listsHeld
    ⟨divided, divideList_retainedAlone held.alone, divideList_liveMapValid held.map⟩

theorem splitLists_joinedInto (joined : (s.area x).joinedInto = some y) (held : ListsHeld s) (k : Area) :
    ((s.splitLists x y).area k).joinedInto = if x = k then none else (s.area k).joinedInto :=
  ((splitLists_passes (divideList_entriesSound joined held.map held.entries)).1.joined k).trans (divideList_joinedInto k)

theorem splitLists_withinMaxOpen (joined : (s.area x).joinedInto = some y) (held : ListsHeld s)
    (within : ∀ k, WithinMaxOpen s k) (k : Area) : WithinMaxOpen (s.splitLists x y) k := by
  obtain ⟨shrinks, bound⟩ := splitLists_passes (divideList_entriesSound joined held.map held.entries)
  by_cases same : k = x
  · subst same; exact bound
  · refine shrinks.withinMaxOpen fun inUse => ?_
    rw [inUse_iff, divideList_joinedInto, if_neg (Ne.symm same)] at inUse
    rw [divideList_eq, relaid_area]
    dsimp only
    rw [if_neg (Ne.symm same)]
    split
    · next lead =>
      subst lead
      exact (List.length_filter_le ..).trans (within y (inUse_iff.2 inUse))
    · exact within k (inUse_iff.2 inUse)

/-! ### A change of the join map (R104) -/

/-- An area is alone, or joined as a new join map has it. -/
def JoinAgrees (new : Area → Option Area) (s : State) (k : Area) : Prop :=
  (s.area k).joinedInto = none ∨ (s.area k).joinedInto = new k

variable {new : Area → Option Area}

theorem splitForMap_listsHeld (held : ListsHeld s) (k : Area) :
    ListsHeld (State.splitForMap new s k) ∧ JoinAgrees new (State.splitForMap new s k) k
      ∧ ∀ l, JoinAgrees new s l → JoinAgrees new (State.splitForMap new s k) l := by
  unfold State.splitForMap
  split
  · next alone => exact ⟨held, .inl alone, fun _ => id⟩
  · next lead joined =>
    split
    · next same => exact ⟨held, .inr (joined.trans same.symm), fun _ => id⟩
    · have map := splitLists_joinedInto joined held
      refine ⟨splitLists_listsHeld joined held, .inl ((map k).trans (if_pos rfl)), fun l agrees => ?_⟩
      rw [JoinAgrees, map]
      split
      · exact .inl rfl
      · exact agrees

theorem splitsForMap_listsHeld : ∀ (ks : List Area) {s : State}, ListsHeld s →
    ListsHeld (ks.foldl (State.splitForMap new) s)
      ∧ ∀ l, l ∈ ks ∨ JoinAgrees new s l → JoinAgrees new (ks.foldl (State.splitForMap new) s) l
  | [], _, held => ⟨held, fun _ agrees => agrees.resolve_left List.not_mem_nil⟩
  | k :: ks, _, held => by
    obtain ⟨first, here, others⟩ := splitForMap_listsHeld (new := new) held k
    obtain ⟨later, agrees⟩ := splitsForMap_listsHeld ks first
    refine ⟨later, fun l h => agrees l ?_⟩
    rcases h with mem | before
    · exact (List.mem_cons.1 mem).elim (fun same => .inr (same ▸ here)) .inl
    · exact .inr (others l before)

theorem joinForMap_listsHeld (valid : MapValid new) (held : ListsHeld s) (agrees : ∀ l, JoinAgrees new s l) (k : Area) :
    ListsHeld (State.joinForMap new s k) ∧ ∀ l, JoinAgrees new (State.joinForMap new s k) l := by
  unfold State.joinForMap
  split
  · exact ⟨held, agrees⟩
  · next lead named =>
    split
    · exact ⟨held, agrees⟩
    · next apart =>
      obtain ⟨ne, lead_alone⟩ := valid k lead named
      have may : MayJoin s k lead := {
        ne
        alone := (agrees k).resolve_right fun same => apart (same.trans named)
        unled := fun l into => by
          have same : new l = some k := ((agrees l).resolve_left (by simp [into])).symm.trans into
          exact Option.some_ne_none lead (named.symm.trans (valid l k same).2)
        lead := (agrees lead).elim id fun same => same.trans lead_alone }
      refine ⟨joinLists_listsHeld may held, fun l => ?_⟩
      rw [JoinAgrees, joinLists_joinedInto may held]
      split
      · next same => exact .inr (same ▸ named.symm)
      · exact agrees l

theorem joinsForMap_listsHeld (valid : MapValid new) : ∀ (ks : List Area) {s : State}, ListsHeld s →
    (∀ l, JoinAgrees new s l) → ListsHeld (ks.foldl (State.joinForMap new) s)
  | [], _, held, _ => held
  | k :: ks, _, held, agrees => by
    obtain ⟨first, agrees⟩ := joinForMap_listsHeld valid held agrees k
    exact joinsForMap_listsHeld valid ks first agrees

/-- R104: a change to a valid join map. -/
theorem changeMap_listsHeld (valid : MapValid new) (held : ListsHeld s) : ListsHeld (s.changeMap new) := by
  obtain ⟨split, agrees⟩ := splitsForMap_listsHeld (new := new) allAreas held
  exact joinsForMap_listsHeld valid allAreas split fun l => agrees l (.inl (mem_allAreas l))

end

end Sys2Proof.Machine
end

section
/-! SUPPORT. R25, R46 to R48, R59, R61, R104, R121: changes of settings, pauses, joins, splits and recalls keep the open lists
and the live join map sound. -/

namespace Sys2Proof.Machine

open Sys2Proof.Safety

/-- Sound open lists with a valid live join map stay so. -/
structure AreasKept (s t : State) : Prop where
  kept : ListsSound s ∧ LiveMapValid s → ListsSound t ∧ LiveMapValid t

section
variable {s t u : State} {i : Fin 24} {k : Area}

theorem AreasKept.refl (s : State) : AreasKept s s := ⟨id⟩

theorem AreasKept.trans (h : AreasKept s t) (k : AreasKept t u) : AreasKept s u := ⟨k.kept ∘ h.kept⟩

theorem ListsKept.areasKept (h : ListsKept s t) : AreasKept s t := ⟨fun ⟨sound, valid⟩ => by
  obtain ⟨sound, joined⟩ := h.kept sound
  refine ⟨sound, ?_⟩
  rw [LiveMapValid, funext joined]
  exact valid⟩

theorem ListsShrink.areasKept (h : ListsShrink s t) : AreasKept s t := h.listsKept.areasKept

theorem listsSound_of_held (held : ListsHeld s) (within : ∀ k, WithinMaxOpen s k) : ListsSound s ∧ LiveMapValid s :=
  ⟨listsSound_iff.2 ⟨held.entries, held.alone, within⟩, held.map⟩

theorem held_of_listsSound (h : ListsSound s ∧ LiveMapValid s) : ListsHeld s ∧ ∀ k, WithinMaxOpen s k := by
  obtain ⟨entries, alone, within⟩ := listsSound_iff.1 h.1
  exact ⟨⟨entries, alone, h.2⟩, within⟩

/-! ### Input settings (R25) -/

theorem stays_settings {old new : InputSettings} (gated : old.mode = .gated) (stays : ¬ withdraws old new = true) :
    new.area = old.area ∧ new.mode = old.mode := by
  simp only [withdraws_iff, not_or, not_and, not_not] at stays
  exact ⟨stays.1.symm, (stays.2 gated).trans gated.symm⟩

/-- R25: new settings that leave an input where it is. -/
theorem setSettings_listsShrink (sound : EntriesSound s) {new : InputSettings}
    (stays : ¬ withdraws (s.input i).settings new = true) :
    ListsShrink s (s.setInput i { s.input i with settings := new }) := by
  have gate := setInput_gate (s := s) (i := i) (y := { s.input i with settings := new }) rfl
  refine ⟨fun k j mem => ?_, fun _ => rfl, fun _ => rfl, fun _ => .refl _, fun j => ?_, fun k e mem retained => ?_⟩
  · rw [setInput_input]
    split
    · next same => subst same; exact stays_settings (sound.gated k i mem) stays
    · exact ⟨rfl, rfl⟩
  · exact (Input.Open.congr (gate j)).trans ⟨fun isOpen => ⟨isOpen, fun _ => id⟩, And.left⟩
  · exact ⟨gate e.input, e, mem, rfl, retained⟩

theorem withdrawnTo_listsShrink (sound : EntriesSound s) (new : InputSettings) : ListsShrink s (s.withdrawnTo i new) := by
  obtain ⟨withdrawn, unlisted⟩ := withdraw_listsShrink sound i
  have gate : ((s.withdraw i).input i).gate = .closed := by rw [withdraw_input, if_pos rfl]; rfl
  exact withdrawn.trans
    (setInput_unlisted_listsShrink (withdrawn.entriesSound sound) unlisted (not_open_of_closed gate))

theorem putInputSettings_listsShrink (sound : EntriesSound s) (new : InputSettings) :
    ListsShrink s (s.putInputSettings i new) := by
  rcases putInputSettings_cases s i new with ⟨stays, e⟩ | ⟨_, recomputed⟩
  · rw [e]; exact setSettings_listsShrink sound stays
  · exact (withdrawnTo_listsShrink sound new).trans recomputed.listsShrink

variable (s) in
theorem putPriority_listsShrink (i : Fin 24) : ListsShrink s (s.putPriority i) := by
  unfold State.putPriority
  split
  · exact .refl s
  · exact updateEntry_listsShrink (fun _ => rfl) fun _ => id

/-- R25: a change of an input's settings. -/
theorem changeInput_listsShrink (sound : EntriesSound s) (new : InputSettings) : ListsShrink s (s.changeInput i new) := by
  have settings := putInputSettings_listsShrink (i := i) sound new
  have listed : ListsShrink s (s.inputListed i new) := .ite settings (settings.trans (putPriority_listsShrink ..))
  have placed : ListsShrink s (s.inputPlaced i new) := .ite listed (listed.trans (retime_onlyPlan ..).listsShrink)
  by_cases change : new = (s.input i).settings
  · rw [change, changeInput_self]; exact .refl s
  · exact (placed.trans (retarget_listsShrink ..)).trans (changeInput_inputRetargeted change).plan.listsShrink

/-! ### Area settings and pauses (R46 to R48, R59, R61) -/

/-- Areas that keep their lists and join map entries keep their entries sound. -/
theorem EntriesSound.of_areas (sound : EntriesSound s) (input : ∀ i, t.input i = s.input i)
    (joined : ∀ k, (t.area k).joinedInto = (s.area k).joinedInto) (list : ∀ k, (t.area k).list = (s.area k).list) :
    EntriesSound t := by
  have named (k : Area) : listed t k = listed s k := by rw [listed, list, listed]
  have areas (i : Fin 24) : t.inputArea i = s.inputArea i := inputArea_congr (by rw [input]) joined
  exact sound.of_relisted input (fun k i mem => (areas i).trans (sound.own_area k i (named k ▸ mem)))
    (fun k => by rw [named]; exact sound.no_repeats k) (fun k _ mem => ⟨k, by rwa [named]⟩)
    fun k e mem => ⟨k, e, list k ▸ mem, rfl, rfl⟩

/-- R46 to R48: an accepted ARSET. -/
theorem changeAreaSettings_listsKept (new : AreaSettings) : ListsKept s (s.changeAreaSettings k new) := by
  refine ⟨fun sound => ?_⟩
  obtain ⟨entries, alone, within⟩ := listsSound_iff.1 sound
  have other {l : Area} (h : k ≠ l) : (s.setArea k { s.area k with settings := new }).area l = s.area l := by
    rw [setArea_area, if_neg h]
  have stands (l : Area) : ((s.setArea k { s.area k with settings := new }).area l).joinedInto = (s.area l).joinedInto
      ∧ ((s.setArea k { s.area k with settings := new }).area l).list = (s.area l).list := by
    by_cases same : k = l
    · subst same; rw [setArea_area_self]; exact ⟨rfl, rfl⟩
    · rw [other same]; exact ⟨rfl, rfl⟩
  have put : EntriesSound (s.setArea k { s.area k with settings := new }) :=
    entries.of_areas (fun _ => rfl) (fun l => (stands l).1) fun l => (stands l).2
  have settled {t : State} (shrinks : ListsShrink (s.setArea k { s.area k with settings := new }) t)
      (bound : WithinMaxOpen t k) : ListsSound t ∧ ∀ l, (t.area l).joinedInto = (s.area l).joinedInto := by
    refine ⟨listsSound_iff.2 ⟨shrinks.entriesSound put, fun l => shrinks.retainedAlone ?_, fun l => ?_⟩,
      fun l => (shrinks.joined l).trans (stands l).1⟩
    · rw [RetainedAlone, (stands l).2]; exact alone l
    · by_cases same : k = l
      · subst same; exact bound
      · exact shrinks.withinMaxOpen (by rw [WithinMaxOpen, State.inUse, other same]; exact within l)
  unfold State.changeAreaSettings
  dsimp only
  split
  · obtain ⟨applied, bound⟩ := applySettings_listsShrink put k (s.area k).settings
    have later (t : State) : ListsShrink t ((t.updateNom k).retarget (s.gatedIn k)) :=
      (updateNom_listsShrink ..).trans (retarget_listsShrink ..)
    exact settled (applied.trans (later _)) ((later _).withinMaxOpen bound)
  · next joined => exact settled (.refl _) fun inUse => absurd inUse joined

variable (s) in
theorem changePause_listsKept (k : Area) (paused : Bool) : ListsKept s (s.changePause k paused) := by
  have put : ListsShrink s (s.setArea k { s.area k with paused }) := setArea_listsShrink rfl rfl rfl
  have drained (t : State) : ListsKept t ((t.releaseRetained k).updateNom k) :=
    .of_shrink fun sound => (releaseRetained_listsShrink sound k).1.trans (updateNom_listsShrink ..)
  have released {c : Prop} [Decidable c] (t : State) : ListsKept t (if c then (t.releaseRetained k).updateNom k else t) :=
    .ite (drained t) (.refl t)
  exact .ite (.refl s) ((put.listsKept.trans (released _)).trans (retarget_listsShrink ..).listsKept)

/-! ### Joins and splits (R95 to R100) -/

variable (s) in
theorem afterMapChange_listsShrink (which : Fin 24 → Bool) : ListsShrink s (s.afterMapChange which) :=
  (retarget_listsShrink s which).trans (reevaluate_onlyPlan ..).listsShrink

theorem joinArea_areasKept {x y : Area} (may : MayJoin s x y) : AreasKept s (s.joinArea x y) := by
  have joined : AreasKept s (s.joinLists x y) := ⟨fun sound => by
    obtain ⟨held, within⟩ := held_of_listsSound sound
    exact listsSound_of_held (joinLists_listsHeld may held) (joinLists_withinMaxOpen may held within)⟩
  exact joined.trans (((updateNom_listsShrink _ y).trans (updateNom_listsShrink _ x)).trans
    (afterMapChange_listsShrink ..)).areasKept

theorem splitArea_areasKept {x y : Area} (joined : (s.area x).joinedInto = some y) : AreasKept s (s.splitArea x y) := by
  have split : AreasKept s (s.splitLists x y) := ⟨fun sound => by
    obtain ⟨held, within⟩ := held_of_listsSound sound
    exact listsSound_of_held (splitLists_listsHeld joined held) (splitLists_withinMaxOpen joined held within)⟩
  exact split.trans (((updateNom_listsShrink _ x).trans (updateNom_listsShrink _ y)).trans
    (afterMapChange_listsShrink ..)).areasKept

/-! ### Recalls (R104, R121) -/

/-- R121, stage 1, at one input. -/
theorem withdrawFor_listsShrink (sound : EntriesSound s) (scene : Scene) (i : Fin 24) :
    ListsShrink s (s.withdrawFor scene i)
      ∧ (withdraws (s.input i).settings (scene.inputs.get i) = true → ∀ k, i ∉ listed (s.withdrawFor scene i) k) := by
  obtain ⟨shrinks, unlisted⟩ := withdraw_listsShrink sound i
  unfold State.withdrawFor
  split
  · exact ⟨shrinks, fun _ => unlisted⟩
  · next stays => exact ⟨.refl s, fun leaves => absurd leaves stays⟩

theorem withdrawFor_settings (scene : Scene) (i j : Fin 24) :
    ((State.withdrawFor scene s i).input j).settings = (s.input j).settings := by
  unfold State.withdrawFor
  split
  · rw [withdraw_input]
    split <;> rfl
  · rfl

/-- R121, stage 1: no list names an input that the new settings withdraw. -/
theorem withdrawals_listsShrink (scene : Scene) : ∀ (is : List (Fin 24)) {s : State}, EntriesSound s →
    ListsShrink s (is.foldl (State.withdrawFor scene) s)
      ∧ ∀ i, ((is.foldl (State.withdrawFor scene) s).input i).settings = (s.input i).settings
        ∧ (i ∈ is → withdraws (s.input i).settings (scene.inputs.get i) = true →
          ∀ k, i ∉ listed (is.foldl (State.withdrawFor scene) s) k)
  | [], s, _ => ⟨.refl s, fun _ => ⟨rfl, nofun⟩⟩
  | j :: is, s, sound => by
    obtain ⟨first, left⟩ := withdrawFor_listsShrink sound scene j
    obtain ⟨later, others⟩ := withdrawals_listsShrink scene is (first.entriesSound sound)
    refine ⟨first.trans later, fun i => ?_⟩
    obtain ⟨settings, gone⟩ := others i
    rw [withdrawFor_settings] at settings gone
    refine ⟨settings, fun mem leaves k named => ?_⟩
    rcases List.mem_cons.1 mem with rfl | mem
    · exact left leaves k ((later.listed k).subset named)
    · exact gone mem leaves k named

theorem putFields_input (scene : Scene) (i : Fin 24) :
    (s.putFields scene).input i = { s.input i with settings := scene.inputs.get i } := Table.get_mapIdx ..

theorem putFields_area (scene : Scene) (k : Area) :
    (s.putFields scene).area k = { s.area k with list := (s.area k).list.map scene.reprioritise } := Table.get_mapIdx ..

/-- R121, stage 2: the new settings, where they withdraw no input that a list names. -/
theorem putFields_listsShrink (sound : EntriesSound s) {scene : Scene}
    (stays : ∀ k i, i ∈ listed s k → ¬ withdraws (s.input i).settings (scene.inputs.get i) = true) :
    ListsShrink s (s.putFields scene) := by
  have named (k : Area) : listed (s.putFields scene) k = listed s k := by
    rw [listed, putFields_area, List.map_map]; rfl
  refine ⟨fun k i mem => ?_, fun k => by rw [putFields_area], fun k => by rw [putFields_area],
    fun k => by rw [named], fun i => ?_, fun k e mem retained => ?_⟩
  · rw [named] at mem
    rw [putFields_input]
    exact stays_settings (sound.gated k i mem) (stays k i mem)
  · rw [putFields_input]
    exact ⟨fun isOpen => ⟨isOpen, fun k => by rw [named]; exact id⟩, And.left⟩
  · rw [putFields_area] at mem
    obtain ⟨f, f_mem, rfl⟩ := List.mem_map.1 mem
    exact ⟨by rw [putFields_input], f, f_mem, rfl, retained⟩

/-- R121, stage 3: the new area settings. -/
theorem putAreas_listsHeld (held : ListsHeld s) (scene : Scene) : ListsHeld (s.putAreas scene) := by
  have area (k : Area) : (s.putAreas scene).area k = { s.area k with settings := scene.areas.get (areaIndex k) } :=
    Table.get_mapIdx ..
  refine ⟨held.entries.of_areas (fun _ => rfl) (fun k => by rw [area]) fun k => by rw [area], fun k => ?_, ?_⟩
  · rw [RetainedAlone, area]; exact held.alone k
  · simp only [LiveMapValid, area]; exact held.map

/-- R121, stage 5, at one area. -/
theorem areaConsequence_listsShrink (sound : EntriesSound s) (before : Area → AreaSettings) (k : Area) :
    ListsShrink s (s.areaConsequence before k) ∧ WithinMaxOpen (s.areaConsequence before k) k := by
  unfold State.areaConsequence
  split
  · exact applySettings_listsShrink sound k (before k)
  · next joined => exact ⟨.refl s, fun inUse => absurd inUse joined⟩

/-- R121, stage 5: each list in use is brought within its max open. -/
theorem areaConsequences_listsShrink (before : Area → AreaSettings) : ∀ (ks : List Area) {s : State}, EntriesSound s →
    ListsShrink s (ks.foldl (State.areaConsequence before) s)
      ∧ ∀ k ∈ ks, WithinMaxOpen (ks.foldl (State.areaConsequence before) s) k
  | [], s, _ => ⟨.refl s, nofun⟩
  | k :: ks, _, sound => by
    obtain ⟨first, here⟩ := areaConsequence_listsShrink sound before k
    obtain ⟨later, others⟩ := areaConsequences_listsShrink before ks (first.entriesSound sound)
    refine ⟨first.trans later, fun l mem => ?_⟩
    rcases List.mem_cons.1 mem with rfl | mem
    · exact later.withinMaxOpen here
    · exact others l mem

/-- R121, stages 1 to 5: a scene with a valid join map put in force. -/
theorem putScene_areasKept {scene : Scene} (valid : MapValid fun k => scene.joins.get (areaIndex k)) :
    AreasKept s (s.putScene scene) := by
  refine ⟨fun sound => ?_⟩
  obtain ⟨held, _⟩ := held_of_listsSound sound
  obtain ⟨withdrawn, left⟩ := withdrawals_listsShrink scene (List.finRange 24) held.entries
  have fields := withdrawn.trans (putFields_listsShrink (scene := scene) (withdrawn.entriesSound held.entries)
    fun k i named leaves => by
      obtain ⟨settings, gone⟩ := left i
      rw [settings] at leaves
      exact gone (List.mem_finRange i) leaves k named)
  have mapped := changeMap_listsHeld valid (putAreas_listsHeld (fields.listsHeld held) scene)
  obtain ⟨consequences, within⟩ :=
    areaConsequences_listsShrink (fun k => (s.area k).settings) allAreas mapped.entries
  have noms (t : State) : ListsShrink t (allAreas.foldl State.setNom t) :=
    foldl_touches ListsShrink.refl ListsShrink.trans _ setNom_listsShrink _ t
  unfold State.putScene
  dsimp only
  exact listsSound_of_held ((noms _).listsHeld (consequences.listsHeld mapped))
    fun k => (noms _).withinMaxOpen (within k (mem_allAreas k))

variable (s) in
theorem reckon_listsShrink : ListsShrink s s.reckon :=
  ((retime_onlyPlan s _).listsShrink.trans (retargetStanding_listsShrink _)).trans (reevaluate_onlyPlan ..).listsShrink

/-- R121: a recall of a scene with a valid join map. -/
theorem recall_areasKept {scene : Scene} (valid : MapValid fun k => scene.joins.get (areaIndex k)) (slot : Fin 64)
    (mode : RecallMode) (keepTrims : Bool) (cause : RecallCause) :
    AreasKept s (s.recall slot scene mode keepTrims cause) := by
  have trims (t : State) : ListsShrink t (t.putTrims keepTrims) := .of_unchanged (fun _ => rfl) fun _ => rfl
  have put := (putScene_areasKept (s := s) valid).trans ((trims _).trans (reckon_listsShrink _)).areasKept
  refine AreasKept.trans ?_ (raise_onlyNotices ..).listsShrink.areasKept
  cases mode with
  | smooth => exact put
  | snap => exact put.trans (snapAll_onlyPlan _).listsShrink.areasKept

end

end Sys2Proof.Machine
end

section
/-! PROOFS. O28: the open lists and the join maps stay sound. -/

namespace Sys2Proof.Machine

open Sys2Proof.Safety

/-- Sound open lists and valid join maps, of the live setup and of every scene held, stay so. -/
structure ListsAndMapsKept (s t : State) : Prop where
  kept : ListsSound s ∧ MapsValid s → ListsSound t ∧ MapsValid t

section
variable {s t u : State}

theorem ListsAndMapsKept.refl (s : State) : ListsAndMapsKept s s := ⟨id⟩

theorem ListsAndMapsKept.trans (h : ListsAndMapsKept s t) (k : ListsAndMapsKept t u) : ListsAndMapsKept s u :=
  ⟨k.kept ∘ h.kept⟩

theorem ListsAndMapsKept.ite {c : Prop} [Decidable c] (h : ListsAndMapsKept s t) (k : ListsAndMapsKept s u) :
    ListsAndMapsKept s (if c then t else u) := by
  split
  · exact h
  · exact k

theorem mapsValid_iff : MapsValid s ↔
    LiveMapValid s ∧ ∀ scene, HoldsScene s scene → MapValid fun k => scene.joins.get (areaIndex k) := .rfl

/-- Areas that are kept, with no scene come to be held. -/
theorem AreasKept.listsAndMapsKept (h : AreasKept s t) (scenes : ∀ scene, HoldsScene t scene → HoldsScene s scene) :
    ListsAndMapsKept s t := ⟨fun ⟨sound, maps⟩ => by
  obtain ⟨live, held⟩ := mapsValid_iff.1 maps
  obtain ⟨sound, live⟩ := h.kept ⟨sound, live⟩
  exact ⟨sound, mapsValid_iff.2 ⟨live, fun scene holds => held scene (scenes scene holds)⟩⟩⟩

theorem holdsScene_congr (store : t.store = s.store) (operation : t.operation = s.operation) (scene : Scene) :
    HoldsScene t scene ↔ HoldsScene s scene := by
  simp only [HoldsScene, State.slot, store, operation]

/-- The setup changes, and no store. -/
theorem OnlySetup.listsAndMapsKept (h : OnlySetup s t) (areas : AreasKept s t) : ListsAndMapsKept s t := by
  obtain ⟨_, _, _, _, _, _, _, rfl⟩ := h
  exact areas.listsAndMapsKept fun scene => (holdsScene_congr rfl rfl scene).1

theorem OnlyMixing.listsAndMapsKept (h : OnlyMixing s t) (areas : AreasKept s t) : ListsAndMapsKept s t :=
  h.setup.listsAndMapsKept areas

theorem CoreStands.listsAndMapsKept (h : CoreStands s t) : ListsAndMapsKept s t :=
  (ListsKept.of_same h.inputs h.areas).areasKept.listsAndMapsKept fun scene =>
    (holdsScene_congr h.store h.operation scene).1

variable (s) in
/-- R121: a recall of a scene that a VALID slot holds. -/
theorem recall_listsAndMapsKept {k : Fin 64} {scene : Scene} (slot : s.slot k = .valid scene) (mode : RecallMode)
    (keepTrims : Bool) (cause : RecallCause) : ListsAndMapsKept s (s.recall k scene mode keepTrims cause) := by
  refine ⟨fun sound => ?_⟩
  have valid := (mapsValid_iff.1 sound.2).2 scene (.inl ⟨k, slot⟩)
  exact ((recall_onlySetup ..).listsAndMapsKept (recall_areasKept valid k mode keepTrims cause)).kept sound

end

variable (s : State)

/-! ### The alarm (R139, R142, R144) -/

theorem expireSupervision_listsAndMapsKept : ListsAndMapsKept s s.expireSupervision := by
  have fault (cause : FaultCause) (action : ActionTaken) := (enterFault_coreStands s cause action).listsAndMapsKept
  unfold State.expireSupervision
  split
  · exact fault ..
  · exact (fault ..).trans (takeOverride_coreStands ..).listsAndMapsKept
  · split
    · exact fault ..
    · next k scene fallback =>
      refine (fault ..).trans (recall_listsAndMapsKept _ ?_ ..)
      rw [State.slot, (enterFault_coreStands ..).store]
      unfold State.fallbackScene at fallback
      split at fallback
      · cases fallback
      · split at fallback
        · next slot => cases fallback; exact slot
        · cases fallback

theorem enterArmed_listsAndMapsKept : ListsAndMapsKept s s.enterArmed := by
  have armed := ((loadTimer_coreStands s 1).trans (enterAlarmState_coreStands _ .armed)).listsAndMapsKept
  exact .ite (armed.trans (expireSupervision_listsAndMapsKept _)) armed

theorem decideAutoArm_listsAndMapsKept : ListsAndMapsKept s s.decideAutoArm :=
  .ite (enterArmed_listsAndMapsKept s) (.refl s)

theorem keySample_listsAndMapsKept (level : Bool) : ListsAndMapsKept s (s.keySample level) := by
  have sampled (key : LineFilter) : CoreStands s { s with key } := ⟨rfl, rfl, rfl, rfl, rfl⟩
  have first (t : State) : ListsAndMapsKept t t.firstKeyAcceptance :=
    .ite (setAlarm_coreStands ..).listsAndMapsKept (decideAutoArm_listsAndMapsKept t)
  unfold State.keySample
  dsimp only
  split
  · split
    · exact (sampled _).listsAndMapsKept.trans (first _)
    · exact ((sampled _).trans (raise_coreStands ..)).listsAndMapsKept
  · exact (sampled _).listsAndMapsKept

theorem supervisionTick_listsAndMapsKept : ListsAndMapsKept s s.supervisionTick := by
  have ticked (alarm : AlarmUnit) := (setAlarm_coreStands s alarm).listsAndMapsKept
  unfold State.supervisionTick
  split
  · exact .ite ((ticked _).trans (expireSupervision_listsAndMapsKept _)) (ticked _)
  · exact .refl s

/-! ### The stores (R119, R123, R131) -/

/-- R119: the live setup holds the live join map. -/
theorem liveSetup_joins (label : List Byte) (k : Area) :
    (s.liveSetup label).joins.get (areaIndex k) = (s.area k).joinedInto := Table.get_mapIdx ..

theorem begin_slot {op : StoreOp} {k : Fin 64} {scene : Scene} (slot : (s.store.begin op).slots.get k = .valid scene) :
    s.slot k = .valid scene := by
  cases op with
  | scst | scer =>
    rw [Store.begin, Table.get_set] at slot
    split at slot
    · cases slot
    · exact slot
  | bldw | alcf | prot => exact slot

/-- R123: an accepted operation holds at most the live setup besides the scenes held before. -/
theorem acceptStore_listsAndMapsKept {op : StoreOp}
    (live : ∀ k scene, op = .scst k scene → ∃ label, scene = s.liveSetup label) :
    ListsAndMapsKept s (s.acceptStore op) := by
  refine ⟨fun ⟨sound, maps⟩ => ?_⟩
  obtain ⟨map, held⟩ := mapsValid_iff.1 maps
  have areas := (ListsKept.of_same (s := s) (t := s.acceptStore op) rfl rfl).areasKept
  obtain ⟨sound, map'⟩ := areas.kept ⟨sound, map⟩
  refine ⟨sound, mapsValid_iff.2 ⟨map', fun scene holds => ?_⟩⟩
  rcases holds with ⟨k, slot⟩ | ⟨k, accepted⟩
  · exact held scene (.inl ⟨k, begin_slot s slot⟩)
  · obtain ⟨label, rfl⟩ := live k scene (Option.some.inj accepted)
    simp only [liveSetup_joins]
    exact map

theorem finishOperation_coreParts (op : StoreOp) : (s.finishOperation op).inputs = s.inputs
    ∧ (s.finishOperation op).areas = s.areas ∧ (s.finishOperation op).store = s.store.complete op
    ∧ (s.finishOperation op).operation = none := by
  cases op <;> exact ⟨rfl, rfl, rfl, rfl⟩

/-- R131: a completion holds no scene that was not held before, in a slot or in the operation. -/
theorem finishOperation_listsAndMapsKept {op : StoreOp} (flies : s.operation = some op) :
    ListsAndMapsKept s (s.finishOperation op) := by
  obtain ⟨inputs, areas, store, operation⟩ := finishOperation_coreParts s op
  refine (ListsKept.of_same inputs areas).areasKept.listsAndMapsKept fun scene holds => ?_
  simp only [HoldsScene, State.slot, store, operation, reduceCtorEq, exists_false, or_false] at holds
  obtain ⟨k, slot⟩ := holds
  cases op with
  | scst j written =>
    rw [Store.complete, Table.get_set] at slot
    split at slot
    · cases slot; exact .inr ⟨j, flies⟩
    · exact .inl ⟨k, slot⟩
  | scer j =>
    rw [Store.complete, Table.get_set] at slot
    split at slot
    · cases slot
    · exact .inl ⟨k, slot⟩
  | bldw | alcf | prot => exact .inl ⟨k, slot⟩

theorem completeStore_listsAndMapsKept : ListsAndMapsKept s s.completeStore := by
  have deferred (t : State) : ListsAndMapsKept t t.takeDeferredDecision :=
    .ite ((setAlarm_coreStands ..).listsAndMapsKept.trans (decideAutoArm_listsAndMapsKept _)) (.refl t)
  unfold State.completeStore
  split
  · exact .refl s
  · next flies =>
    have finished := finishOperation_listsAndMapsKept s flies
    refine ListsAndMapsKept.trans ?_ (raise_coreStands ..).listsAndMapsKept
    split
    · exact finished.trans (deferred _)
    · exact finished

/-! ### Every command but a start-up, a loss of power and a frame boundary -/

theorem planFrameStep_listsAndMapsKept (audio : AudioFrame) : ListsAndMapsKept s (s.planFrameStep audio) := by
  have stands : ListsShrink s (s.planFrameStep audio) :=
    .of_same (fun i => by rw [planFrameStep_input]) (fun i => by rw [planFrameStep_input]) fun _ => ⟨rfl, rfl, rfl⟩
  exact stands.areasKept.listsAndMapsKept fun scene => (holdsScene_congr rfl rfl scene).1

theorem commands_keepListsAndMaps : CommandsMeet ListsAndMapsKept where
  refl := .refl
  trans := .trans
  fetched _ _ _ := CoreStands.listsAndMapsKept ⟨rfl, rfl, rfl, rfl, rfl⟩
  subscribed _ _ := CoreStands.listsAndMapsKept ⟨rfl, rfl, rfl, rfl, rfl⟩
  restartAccepted _ _ := CoreStands.listsAndMapsKept ⟨rfl, rfl, rfl, rfl, rfl⟩
  latch _ _ := CoreStands.listsAndMapsKept ⟨rfl, rfl, rfl, rfl, rfl⟩
  changeInput s i new := (changeInput_onlyMixing s i new).listsAndMapsKept
    (ListsKept.of_shrink fun sound => changeInput_listsShrink sound new).areasKept
  clearReversals s i := (setInput_onlyLists s i _).mixing.listsAndMapsKept
    (setInput_listsShrink (y := { s.input i with reversals := 0 }) rfl rfl).areasKept
  changeZone s z new := (changeZone_coreStands s z new).listsAndMapsKept
  changeZoneGeometry s z new := (changeZoneGeometry_coreStands s z new).listsAndMapsKept
  changeStation s n new := (changeStation_coreStands s n new).listsAndMapsKept
  takeClimate s parts := (takeClimate_coreStands s parts).listsAndMapsKept
  changeSends s i first values := (changeSends_coreStands s i first values).listsAndMapsKept
  snapToTargets s which := (snapToTargets_onlyPlan s which).coreStands.listsAndMapsKept
  changeAreaSettings s k new :=
    (changeAreaSettings_onlyMixing s k new).listsAndMapsKept (changeAreaSettings_listsKept new).areasKept
  joinArea s x y may := (joinArea_onlyMixing s x y).listsAndMapsKept (joinArea_areasKept (mayJoin_of_answered may))
  splitArea s x y joined := (splitArea_onlyMixing s x y).listsAndMapsKept (splitArea_areasKept joined)
  changePause s k paused :=
    (changePause_onlyMixing s k paused).listsAndMapsKept (changePause_listsKept s k paused).areasKept
  setPanel s n p := (setPanel_coreStands s n p).listsAndMapsKept
  recalled s _ _ mode keepTrims cause slot := recall_listsAndMapsKept s slot mode keepTrims cause
  acceptStore s _ live := acceptStore_listsAndMapsKept s live
  timer s _ := (setAlarm_coreStands s _).listsAndMapsKept
  enterAlarmState s state := (enterAlarmState_coreStands s state).listsAndMapsKept
  enterArmed := enterArmed_listsAndMapsKept
  enterFault s cause action := (enterFault_coreStands s cause action).listsAndMapsKept
  takeOverride s cause := (takeOverride_coreStands s cause).listsAndMapsKept
  endOverride s := (endOverride_coreStands s).listsAndMapsKept
  setLine s line l := (setLine_coreStands s line l).listsAndMapsKept
  inputFrame s i samples :=
    (inputFrame_onlyMixing s i samples).listsAndMapsKept (inputFrame_listsKept s i samples).areasKept
  holdTick s k := (holdTick_onlyMixing s k).listsAndMapsKept (holdTick_listsKept s k).areasKept
  holdExpiry s i := (holdExpiry_onlyMixing s i).listsAndMapsKept (holdExpiry_listsKept s i).areasKept
  planFrameStep := planFrameStep_listsAndMapsKept
  moveEnd _ _ := CoreStands.listsAndMapsKept ⟨rfl, rfl, rfl, rfl, rfl⟩
  completeStore := completeStore_listsAndMapsKept
  panelSample s n levelA levelB levelZ := (panelSample_coreStands s n levelA levelB levelZ).listsAndMapsKept
  keySample := keySample_listsAndMapsKept
  supervisionTick := supervisionTick_listsAndMapsKept
  expireSupervision := expireSupervision_listsAndMapsKept

/-! ### Frame boundaries, start-ups and losses of power (R65, R102, R135) -/

theorem frameBoundary_listsAndMapsKept : ListsAndMapsKept s s.frameBoundary := by
  have stands : ListsShrink s s.frameBoundary :=
    .of_entries (f := fun _ e => { e with ticked := false }) (fun i => by rw [frameBoundary_input])
      (fun i => by rw [frameBoundary_input]) (fun k => by rw [frameBoundary_area]; exact ⟨rfl, rfl, rfl⟩)
      (fun _ _ => rfl) fun _ _ => id
  exact stands.areasKept.listsAndMapsKept fun scene => (holdsScene_congr rfl rfl scene).1

variable {s}

/-- R65: empty lists and closed gates. -/
theorem listsSound_of_empty (list : ∀ k, (s.area k).list = []) (gate : ∀ i, (s.input i).gate = .closed) :
    ListsSound s := by
  have unlisted (k : Area) (i : Fin 24) : i ∉ listed s k := by simp [listed, list]
  refine listsSound_iff.2 ⟨⟨fun k i mem => absurd mem (unlisted k i), fun k i mem => absurd mem (unlisted k i),
    fun i => ?_, fun k => ?_, fun k e mem => ?_⟩, fun k e mem => ?_, fun k _ => ?_⟩
  · exact iff_of_false (not_open_of_closed (gate i)) fun ⟨k, mem⟩ => unlisted k i mem
  · simp [listed, list]
  · rw [list] at mem; cases mem
  · rw [list] at mem; cases mem
  · rw [list]; exact Nat.zero_le _

/-- R93: where every area is alone. -/
theorem mapValid_of_alone {joins : Area → Option Area} (alone : ∀ k, joins k = none) : MapValid joins := fun k l into =>
  absurd (into.symm.trans (alone k)) (by simp)

/-- R65, R131, R135: a start-up sets out from the stored contents, with no operation in flight. -/
theorem startUp_listsAndMapsKept (maps : MapsValid s) : ListsSound s.startUp ∧ MapsValid s.startUp := by
  obtain ⟨started, _⟩ := startUp_started s
  obtain ⟨_, _, _, _, _, _, _, e⟩ := startUp_eq s
  have store : s.startUp.store = s.store := (congrArg State.store e :)
  have operation : s.startUp.operation = none := congrArg State.operation e
  refine ⟨listsSound_of_empty (fun k => by rw [started.area]; rfl) fun i => by rw [started.input]; rfl,
    mapsValid_iff.2 ⟨?_, fun scene holds => ?_⟩⟩
  · simp only [LiveMapValid, started.area]
    cases recalled : s.store.startupRecall with
    | none => exact mapValid_of_alone fun k => factory_joins _
    | some found =>
      obtain ⟨_, _, _, slot⟩ := startupRecall_iff.1 recalled
      exact (mapsValid_iff.1 maps).2 found.2 (.inl ⟨found.1, slot⟩)
  · refine (mapsValid_iff.1 maps).2 scene (.inl ?_)
    simpa [HoldsScene, State.slot, store, operation] using holds

/-- R65, R131: a loss of power leaves the stored contents. -/
theorem cold_listsAndMapsKept (maps : MapsValid s) : ListsSound (State.cold s.store s.pending false)
    ∧ MapsValid (State.cold s.store s.pending false) := by
  have area (k : Area) : (State.cold s.store s.pending false).area k = AreaUnit.initial := Table.get_replicate ..
  have input (i : Fin 24) : (State.cold s.store s.pending false).input i = Input.initial := Table.get_replicate ..
  refine ⟨listsSound_of_empty (fun k => by rw [area]; rfl) fun i => by rw [input]; rfl,
    mapsValid_iff.2 ⟨mapValid_of_alone fun k => by rw [area]; rfl, fun scene holds => ?_⟩⟩
  exact (mapsValid_iff.1 maps).2 scene (.inl (holds.resolve_right nofun))

/-- Every command keeps the open lists and the join maps sound. -/
theorem exec_listsAndMapsKept {c : Instr} {t : State} (e : exec c s = .next t) : ListsAndMapsKept s t := by
  have started : ListsAndMapsKept s s.startUp := ⟨fun sound => startUp_listsAndMapsKept sound.2⟩
  by_cases starts : StartsOver c
  · cases c with
    | powerOn => cases e; exact started
    | restart =>
      exact commands_keepListsAndMaps.whenPowered (fun s => if s.restartDue then s.startUp else s) e
        (.ite started (.refl s))
    | powerLoss => cases e; exact ⟨fun sound => cold_listsAndMapsKept sound.2⟩
    | _ => exact starts.elim
  · by_cases boundary : c = .frameBoundary
    · subst boundary
      exact commands_keepListsAndMaps.whenPowered State.frameBoundary e (frameBoundary_listsAndMapsKept s)
    · exact commands_keepListsAndMaps.exec e starts boundary

end Sys2Proof.Machine

namespace Sys2Proof.Proofs

open Sys2Proof Sys2Proof.Machine Sys2Proof.Safety

/-- Settles O28: no entry comes but by an admission (`appendEntry_listsKept`), none becomes retained but by an expiry
(`retain_listsKept`), lists move with the join map (`mergeLists_entriesSound`, `divideList_entriesSound`), and at every
other change entries leave at most (`ListsShrink`). -/
theorem listsAndMapsStaySound : Obligations.ListsAndMapsStaySound := fun s t sound maps stepped => by
  unfold step at stepped
  split at stepped
  · cases stepped; exact ⟨sound, maps⟩
  · next rest _ =>
    have waits : CoreStands s { s with pending := rest } := ⟨rfl, rfl, rfl, rfl, rfl⟩
    exact (exec_listsAndMapsKept stepped).kept (waits.listsAndMapsKept.kept ⟨sound, maps⟩)

end Sys2Proof.Proofs
end

section
/-! SUPPORT. R68, R69, R76, R77: what the live flag and the gain target of a crosspoint are composed of, and the
operations of the plan and the open lists, which leave it as it is or compose afresh what they change. -/

namespace Sys2Proof.Machine

open Sys2Proof.Safety

/-- R68, R76: the live flag and the gain target of a crosspoint are those of the live setup. -/
def Composed (x : Fin 384) (s : State) : Prop :=
  (s.crosspoint x).live = s.liveOf x (s.crosspoint x).send
    ∧ (s.crosspoint x).targetGain = s.gainTargetOf x (s.crosspoint x)

theorem planComposed_iff {s : State} : PlanComposed s ↔ ∀ x, Composed x s := .rfl

/-- From `s` to `t` what the live flag and the gain target of a crosspoint are composed of stands, and so do they. -/
structure MixStands (x : Fin 384) (s t : State) : Prop where
  mode : (t.input (inputOf x)).settings.mode = (s.input (inputOf x)).settings.mode
  area : (t.input (inputOf x)).settings.area = (s.input (inputOf x)).settings.area
  joined : ∀ k, (t.area k).joinedInto = (s.area k).joinedInto
  nom : ∀ k, (t.area k).nom = (s.area k).nom
  scene : (t.zone (zoneOf x)).scene = (s.zone (zoneOf x)).scene
  trim : (t.zone (zoneOf x)).trim = (s.zone (zoneOf x)).trim
  live : (t.crosspoint x).live = (s.crosspoint x).live
  send : (t.crosspoint x).send = (s.crosspoint x).send
  target : (t.crosspoint x).targetGain = (s.crosspoint x).targetGain

/-- A crosspoint that is composed in `s` is composed in `t`. -/
structure ComposedKept (x : Fin 384) (s t : State) : Prop where
  kept : Composed x s → Composed x t

section
variable {x : Fin 384} {s t u : State}

theorem MixStands.refl (s : State) : MixStands x s s := ⟨rfl, rfl, fun _ => rfl, fun _ => rfl, rfl, rfl, rfl, rfl, rfl⟩

theorem MixStands.trans (h : MixStands x s t) (k : MixStands x t u) : MixStands x s u :=
  ⟨k.mode.trans h.mode, k.area.trans h.area, fun l => (k.joined l).trans (h.joined l), fun l => (k.nom l).trans (h.nom l),
    k.scene.trans h.scene, k.trim.trans h.trim, k.live.trans h.live, k.send.trans h.send, k.target.trans h.target⟩

theorem MixStands.ite {c : Prop} [Decidable c] (h : MixStands x s t) (k : MixStands x s u) :
    MixStands x s (if c then t else u) := by
  split
  · exact h
  · exact k

theorem ComposedKept.refl (s : State) : ComposedKept x s s := ⟨id⟩

theorem ComposedKept.trans (h : ComposedKept x s t) (k : ComposedKept x t u) : ComposedKept x s u := ⟨k.kept ∘ h.kept⟩

theorem ComposedKept.ite {c : Prop} [Decidable c] (h : ComposedKept x s t) (k : ComposedKept x s u) :
    ComposedKept x s (if c then t else u) := by
  split
  · exact h
  · exact k

theorem MixStands.inputArea (h : MixStands x s t) : t.inputArea (inputOf x) = s.inputArea (inputOf x) :=
  inputArea_congr h.area h.joined

theorem MixStands.zoneArea (h : MixStands x s t) : t.zoneArea (zoneOf x) = s.zoneArea (zoneOf x) := by
  unfold State.zoneArea
  rw [h.scene]
  exact congrArg (Option.map · _) (funext fun k => by rw [State.leadOf, State.leadOf, h.joined])

theorem MixStands.liveOf (h : MixStands x s t) (send : Int) : t.liveOf x send = s.liveOf x send := by
  unfold State.liveOf
  rw [h.mode, h.inputArea, h.zoneArea]

theorem MixStands.attenuation (h : MixStands x s t) : t.attenuation (inputOf x) = s.attenuation (inputOf x) := by
  unfold State.attenuation
  rw [h.mode, h.inputArea]
  simp only [h.nom]

theorem MixStands.gainTargetOf (h : MixStands x s t) :
    t.gainTargetOf x (t.crosspoint x) = s.gainTargetOf x (s.crosspoint x) := by
  unfold State.gainTargetOf
  rw [h.live, h.send, h.scene, h.trim, h.attenuation]

theorem MixStands.composed (h : MixStands x s t) (composed : Composed x s) : Composed x t := by
  unfold Composed
  rwa [h.live, h.send, h.target, h.liveOf, h.gainTargetOf]

theorem MixStands.composedKept (h : MixStands x s t) : ComposedKept x s t := ⟨h.composed⟩

/-- Inputs, areas, zones and crosspoint records that stand whole. -/
theorem MixStands.of_same (inputs : t.inputs = s.inputs) (areas : t.areas = s.areas) (zones : t.zones = s.zones)
    (records : t.crosspoints = s.crosspoints) : MixStands x s t := by
  constructor <;> simp only [State.input, State.area, State.zone, State.crosspoint, inputs, areas, zones, records,
    implies_true]

theorem OnlyNotices.mixStands (h : OnlyNotices s t) : MixStands x s t := by
  obtain ⟨_, _, rfl⟩ := h
  exact .of_same rfl rfl rfl rfl

/-- What changes the plan alone, and neither live flag nor send nor gain target of the crosspoint. -/
theorem OnlyPlan.mixStands (h : OnlyPlan s t) (live : (t.crosspoint x).live = (s.crosspoint x).live)
    (send : (t.crosspoint x).send = (s.crosspoint x).send)
    (target : (t.crosspoint x).targetGain = (s.crosspoint x).targetGain) : MixStands x s t :=
  ⟨by rw [h.input], by rw [h.input], fun k => by rw [h.area], fun k => by rw [h.area], by rw [h.zone], by rw [h.zone],
    live, send, target⟩

theorem OnlyPlan.mixStands_of_record (h : OnlyPlan s t) (record : t.crosspoint x = s.crosspoint x) : MixStands x s t :=
  h.mixStands (by rw [record]) (by rw [record]) (by rw [record])

end

section
variable (x : Fin 384) (s : State)

/-! ### Writing one part -/

theorem raise_mixStands (k : NoticeKind) (n : Nat) (v : Int) : MixStands x s (s.raise k n v) :=
  (raise_onlyNotices s k n v).mixStands

theorem setLine_mixStands (line : Line) (l : LineState) : MixStands x s (s.setLine line l) :=
  .of_same (by simp) (by simp) (by simp) (by simp)

theorem setPanel_mixStands (n : Fin 8) (p : Panel) : MixStands x s (s.setPanel n p) := .of_same rfl rfl rfl rfl

/-- An input of other crosspoints, or one that keeps its mode and its area. -/
theorem setInput_mixStands {i : Fin 24} {y : Input}
    (h : i = inputOf x → y.settings.mode = (s.input i).settings.mode ∧ y.settings.area = (s.input i).settings.area) :
    MixStands x s (s.setInput i y) := by
  refine ⟨?_, ?_, fun _ => rfl, fun _ => rfl, rfl, rfl, rfl, rfl, rfl⟩ <;> rw [setInput_input] <;> split
  · next same => exact same ▸ (h same).1
  · rfl
  · next same => exact same ▸ (h same).2
  · rfl

theorem setInput_mixStands_of_settings {i : Fin 24} {y : Input} (h : y.settings = (s.input i).settings) :
    MixStands x s (s.setInput i y) := setInput_mixStands x s fun _ => by rw [h]; exact ⟨rfl, rfl⟩

/-- An area that keeps its join map entry and its NOM attenuation. -/
theorem setArea_mixStands {k : Area} {u : AreaUnit} (joined : u.joinedInto = (s.area k).joinedInto)
    (nom : u.nom = (s.area k).nom) : MixStands x s (s.setArea k u) := by
  refine ⟨rfl, rfl, fun l => ?_, fun l => ?_, rfl, rfl, rfl, rfl, rfl⟩ <;> rw [setArea_area] <;> split
  · next same => exact same ▸ joined
  · rfl
  · next same => exact same ▸ nom
  · rfl

/-- A zone of other crosspoints, or one that keeps its scene fields and its trim. -/
theorem setZone_mixStands {z : Fin 16} {y : Zone}
    (h : z = zoneOf x → y.scene = (s.zone z).scene ∧ y.trim = (s.zone z).trim) : MixStands x s (s.setZone z y) := by
  refine ⟨rfl, rfl, fun _ => rfl, fun _ => rfl, ?_, ?_, rfl, rfl, rfl⟩ <;> rw [setZone_zone] <;> split
  · next same => exact same ▸ (h same).1
  · rfl
  · next same => exact same ▸ (h same).2
  · rfl

theorem mapInputs_mixStands {f : Fin 24 → Input → Input} (h : ∀ i y, (f i y).settings = y.settings) :
    MixStands x s { s with inputs := s.inputs.mapIdx f } := by
  refine ⟨?_, ?_, fun _ => rfl, fun _ => rfl, rfl, rfl, rfl, rfl, rfl⟩ <;>
    simp only [State.input, Table.get_mapIdx, h]

theorem mapZones_mixStands {f : Fin 16 → Zone → Zone} (h : ∀ z y, (f z y).scene = y.scene ∧ (f z y).trim = y.trim) :
    MixStands x s { s with zones := s.zones.mapIdx f } := by
  refine ⟨rfl, rfl, fun _ => rfl, fun _ => rfl, ?_, ?_, rfl, rfl, rfl⟩ <;>
    simp only [State.zone, Table.get_mapIdx, h]

theorem updateCrosspoints_mixStands (which : Fin 384 → Bool) {f : Fin 384 → Crosspoint → Crosspoint}
    (h : ∀ x p, (f x p).live = p.live ∧ (f x p).send = p.send ∧ (f x p).targetGain = p.targetGain) :
    MixStands x s (s.updateCrosspoints which f) := by
  refine (updateCrosspoints_onlyPlan ..).mixStands ?_ ?_ ?_ <;> rw [updateCrosspoints_crosspoint] <;> split <;>
    simp only [h]

theorem updateCrosspoints_mixStands_other {which : Fin 384 → Bool} (f : Fin 384 → Crosspoint → Crosspoint)
    (h : which x = false) : MixStands x s (s.updateCrosspoints which f) :=
  (updateCrosspoints_onlyPlan ..).mixStands_of_record (by simp [h])

/-! ### The plan -/

/-- R77: a gain target composed afresh is written alone. -/
theorem recompose_crosspoint (which : Fin 384 → Bool) : (s.recompose which).crosspoint x
    = if which x then { s.crosspoint x with targetGain := s.gainTargetOf x (s.crosspoint x) } else s.crosspoint x :=
  updateCrosspoints_crosspoint ..

/-- R68: a live flag evaluated afresh is written alone. -/
theorem relive_crosspoint (which : Fin 384 → Bool) : (s.relive which).crosspoint x
    = if which x then { s.crosspoint x with live := s.liveOf x (s.crosspoint x).send } else s.crosspoint x :=
  updateCrosspoints_crosspoint ..

/-- R76, R77: the gain target that is composed is the one of the record that it leaves. -/
theorem recompose_targetGain {which : Fin 384 → Bool} (h : which x = true) :
    ((s.recompose which).crosspoint x).targetGain
      = (s.recompose which).gainTargetOf x ((s.recompose which).crosspoint x) := by
  rw [(recompose_onlyPlan s which).gainTargetOf, recompose_crosspoint, if_pos h]
  rfl

/-- R68, R69: the live flag that is evaluated is the one of the setup that it leaves. -/
theorem reevaluate_live {which : Fin 384 → Bool} (h : which x = true) :
    ((s.reevaluate which).crosspoint x).live = (s.reevaluate which).liveOf x (s.crosspoint x).send := by
  rw [(reevaluate_onlyPlan s which).liveOf, State.reevaluate, recompose_crosspoint, if_pos h, relive_crosspoint,
    if_pos h]

/-- R77: a crosspoint whose live flag is that of the live setup, where it is composed afresh or is composed. -/
theorem recompose_composed {which : Fin 384 → Bool} (live : (s.crosspoint x).live = s.liveOf x (s.crosspoint x).send)
    (other : which x = false → Composed x s) : Composed x (s.recompose which) := by
  cases h : which x with
  | false => exact (updateCrosspoints_mixStands_other x s _ h).composed (other h)
  | true =>
    refine ⟨?_, recompose_targetGain x s h⟩
    rw [(recompose_onlyPlan s which).liveOf, recompose_crosspoint, if_pos h]
    exact live

/-- R69: a crosspoint that is evaluated afresh or is composed. -/
theorem reevaluate_composed {which : Fin 384 → Bool} (other : which x = false → Composed x s) :
    Composed x (s.reevaluate which) := by
  cases h : which x with
  | false =>
    exact ((updateCrosspoints_mixStands_other x s _ h).trans (updateCrosspoints_mixStands_other x _ _ h)).composed
      (other h)
  | true =>
    refine ⟨?_, recompose_targetGain x _ h⟩
    rw [reevaluate_live x s h, (reevaluate_sends s which x).1]

theorem snapAll_mixStands : MixStands x s s.snapAll := updateCrosspoints_mixStands x s _ fun _ _ => ⟨rfl, rfl, rfl⟩

theorem snapToTargets_mixStands (which : Fin 384 → Bool) : MixStands x s (s.snapToTargets which) :=
  updateCrosspoints_mixStands x s which fun _ _ => ⟨rfl, rfl, rfl⟩

theorem floorReset_mixStands : MixStands x s s.floorReset :=
  updateCrosspoints_mixStands x s _ fun _ _ => ⟨rfl, rfl, rfl⟩

theorem retime_mixStands (which : Fin 384 → Bool) : MixStands x s (s.retime which) := by
  obtain ⟨live, send, target, _⟩ := retime_sameGains (s := s) (which := which) (x := x) rfl
  exact (retime_onlyPlan s which).mixStands live send target

/-- R84: the end of a move leaves the live flag, the send and the gains. -/
theorem endMove_sameGains (p : Crosspoint) (inaudible : Bool) (frames : Nat) :
    SameGains p (p.endMove inaudible frames) := by
  unfold Crosspoint.endMove
  split
  · exact ⟨rfl, rfl, rfl, rfl⟩
  · dsimp only
    split
    · exact ⟨rfl, rfl, rfl, rfl⟩
    · exact ⟨arrive_live .., arrive_send .., arrive_targetGain .., arrive_activeGain ..⟩

theorem settleMove_sameGains (p : Crosspoint) : SameGains p (s.settleMove x p) := by
  unfold State.settleMove
  split
  · exact endMove_sameGains ..
  · exact ⟨rfl, rfl, rfl, rfl⟩

theorem planFrameStep_mixStands (audio : AudioFrame) : MixStands x s (s.planFrameStep audio) := by
  obtain ⟨live, send, target, _⟩ := settleMove_sameGains x s { (s.crosspoint x).advance with
    activeGain := rampGain (s.zone (zoneOf x)).geometry.slew (s.crosspoint x).activeGain (s.crosspoint x).targetGain }
  have record : (s.planFrameStep audio).crosspoint x = s.stepped x (s.crosspoint x) := planFrameStep_crosspoint ..
  exact ⟨by rw [planFrameStep_input], by rw [planFrameStep_input], fun _ => rfl, fun _ => rfl, by rw [planFrameStep_zone],
    by rw [planFrameStep_zone], record ▸ live, record ▸ send, record ▸ target⟩

theorem moveEnd_mixStands (y : Fin 384) : MixStands x s (s.setCrosspoint y (s.settleMove y (s.crosspoint y))) := by
  obtain ⟨live, send, target, _⟩ := settleMove_sameGains y s (s.crosspoint y)
  refine ⟨rfl, rfl, fun _ => rfl, fun _ => rfl, rfl, rfl, ?_, ?_, ?_⟩ <;> rw [setCrosspoint_crosspoint] <;> split
  · next same => exact same ▸ live
  · rfl
  · next same => exact same ▸ send
  · rfl
  · next same => exact same ▸ target
  · rfl

theorem setNom_joined (k l : Area) : ((s.setNom k).area l).joinedInto = (s.area l).joinedInto := by
  rw [State.setNom, setArea_area]
  split
  · next same => rw [same]
  · rfl

theorem setNom_input (k : Area) (i : Fin 24) : (s.setNom k).input i = s.input i := rfl

theorem setNom_crosspoint (k : Area) : (s.setNom k).crosspoint x = s.crosspoint x := rfl

theorem setNom_inputArea (k : Area) (i : Fin 24) : (s.setNom k).inputArea i = s.inputArea i :=
  inputArea_congr rfl (setNom_joined s k)

/-- R68: no live flag depends on an attenuation. -/
theorem setNom_liveOf (k : Area) (send : Int) : (s.setNom k).liveOf x send = s.liveOf x send := by
  have zoned : (s.setNom k).zoneArea (zoneOf x) = s.zoneArea (zoneOf x) :=
    congrArg (Option.map · _) (funext fun l => by rw [State.leadOf, State.leadOf, setNom_joined])
  unfold State.liveOf
  rw [setNom_inputArea, zoned, setNom_input]

theorem attenuatedBy_setNom_iff {k : Area} : (s.setNom k).attenuatedBy k x = true
    ↔ (s.crosspoint x).live = true ∧ (s.input (inputOf x)).settings.mode = .gated ∧ s.inputArea (inputOf x) = some k := by
  simp [State.attenuatedBy, State.gatedIn, setNom_inputArea, setNom_input, setNom_crosspoint]

/-- R76: a crosspoint that an area does not attenuate does not have its attenuation in its gain target. -/
theorem setNom_gainTargetOf {k : Area} (unattenuated : (s.setNom k).attenuatedBy k x = false) :
    (s.setNom k).gainTargetOf x (s.crosspoint x) = s.gainTargetOf x (s.crosspoint x) := by
  have zone : (s.setNom k).zone (zoneOf x) = s.zone (zoneOf x) := rfl
  unfold State.gainTargetOf
  rw [zone]
  by_cases live : (s.crosspoint x).live = true
  · have attenuation : (s.setNom k).attenuation (inputOf x) = s.attenuation (inputOf x) := by
      unfold State.attenuation
      rw [setNom_input, setNom_inputArea]
      split
      · next l gated own =>
        have other : k ≠ l := fun same =>
          Bool.false_ne_true (unattenuated.symm.trans ((attenuatedBy_setNom_iff x s).2 ⟨live, gated, same ▸ own⟩))
        rw [State.setNom, setArea_area, if_neg other]
      · rfl
    rw [attenuation]
  · rw [if_neg live, if_neg live]

/-- R58, R77: the attenuation of an area is handed to the live crosspoints that it attenuates. -/
theorem updateNom_composedKept (k : Area) : ComposedKept x s (s.updateNom k) := by
  unfold State.updateNom
  split
  · exact .refl s
  · refine ⟨fun ⟨live, target⟩ => ?_⟩
    have live : (s.crosspoint x).live = (s.setNom k).liveOf x (s.crosspoint x).send :=
      live.trans (setNom_liveOf ..).symm
    exact recompose_composed x (s.setNom k) live fun unattenuated =>
      ⟨live, target.trans (setNom_gainTargetOf x s unattenuated).symm⟩

/-! ### Inputs and open lists -/

theorem retarget_mixStands (which : Fin 24 → Bool) : MixStands x s (s.retarget which) :=
  mapInputs_mixStands x s fun _ _ => by split <;> rfl

theorem closeGate_mixStands (i : Fin 24) : MixStands x s (s.closeGate i) := setInput_mixStands_of_settings x s rfl

theorem denyGate_mixStands (i : Fin 24) : MixStands x s (s.denyGate i) := setInput_mixStands_of_settings x s rfl

theorem setGate_mixStands (i : Fin 24) (g : GateState) : MixStands x s (s.setGate i g) :=
  setInput_mixStands_of_settings x s rfl

theorem setList_mixStands (k : Area) (list : List Entry) : MixStands x s (s.setList k list) :=
  setArea_mixStands x s rfl rfl

theorem updateEntry_mixStands (k : Area) (i : Fin 24) (f : Entry → Entry) : MixStands x s (s.updateEntry k i f) :=
  setList_mixStands ..

theorem dropEntry_mixStands (k : Area) (r : ListReason) (i : Fin 24) : MixStands x s (s.dropEntry k r i) :=
  ((setList_mixStands x s k _).trans (closeGate_mixStands x _ i)).trans (raise_mixStands ..)

theorem withdraw_mixStands (i : Fin 24) : MixStands x s (s.withdraw i) := by
  unfold State.withdraw
  split
  · exact closeGate_mixStands ..
  · exact .ite (dropEntry_mixStands ..) (closeGate_mixStands ..)

theorem releaseRetained_mixStands (k : Area) : MixStands x s (s.releaseRetained k) :=
  foldl_touches MixStands.refl MixStands.trans _ (fun s i => dropEntry_mixStands x s k .released i) _ s

theorem releaseIf_mixStands {c : Prop} [Decidable c] (k : Area) :
    MixStands x s (if c then s.releaseRetained k else s) := .ite (releaseRetained_mixStands ..) (.refl s)

theorem shed_mixStands (k : Area) (r : ListReason) (n : Nat) : MixStands x s (s.shed k r n) := by
  induction n generalizing s with
  | zero => exact .refl s
  | succ n ih =>
    unfold State.shed
    split
    · exact .refl s
    · exact (dropEntry_mixStands ..).trans (ih _)

theorem applySettings_mixStands (k : Area) (old : AreaSettings) : MixStands x s (s.applySettings k old) :=
  ((shed_mixStands ..).trans (releaseIf_mixStands ..)).trans (releaseIf_mixStands ..)

theorem dropAndRetarget_mixStands (k : Area) (r : ListReason) (i : Fin 24) :
    MixStands x s (s.dropAndRetarget k r i) := (dropEntry_mixStands ..).trans (retarget_mixStands ..)

theorem appendEntry_mixStands (k : Area) (i : Fin 24) (p : Nat) (l : Int) :
    MixStands x s (s.appendEntry k i p l) := by
  have opened (t : State) : MixStands x t (t.setInput i { t.input i with gate := .opened, qualifying := 0 }) :=
    setInput_mixStands_of_settings x t rfl
  exact (((setList_mixStands ..).trans (opened _)).trans (retarget_mixStands ..)).trans (raise_mixStands ..)

theorem giveWay_mixStands (k : Area) : MixStands x s (s.giveWay k) := by
  unfold State.giveWay
  split
  · exact .refl s
  · exact dropAndRetarget_mixStands ..

theorem expireHold_mixStands (k : Area) (i : Fin 24) : MixStands x s (s.expireHold k i) :=
  .ite (updateEntry_mixStands ..) (dropAndRetarget_mixStands ..)

theorem loudFrame_mixStands (i : Fin 24) : MixStands x s (s.loudFrame i) := by
  unfold State.loudFrame
  split
  · exact setGate_mixStands ..
  · exact (updateEntry_mixStands ..).trans (setGate_mixStands ..)

theorem settleRequest_composedKept (k : Area) (i : Fin 24) (p : Nat) (l : Int) :
    ComposedKept x s (s.settleRequest k i p l) := by
  have denied (t : State) := (denyGate_mixStands x t i).composedKept
  have appended (t : State) : ComposedKept x t ((t.appendEntry k i p l).updateNom k) :=
    (appendEntry_mixStands ..).composedKept.trans (updateNom_composedKept ..)
  refine .ite (denied s) ((giveWay_mixStands x s k).composedKept.trans (.ite (appended _) ?_))
  split
  · exact denied _
  · exact (dropAndRetarget_mixStands ..).composedKept.trans (appended _)

theorem requestAdmission_composedKept (i : Fin 24) : ComposedKept x s (s.requestAdmission i) := by
  unfold State.requestAdmission
  split
  · exact (denyGate_mixStands ..).composedKept
  · exact settleRequest_composedKept ..

theorem quietFrame_composedKept (i : Fin 24) : ComposedKept x s (s.quietFrame i) := by
  unfold State.quietFrame
  split
  · exact (setGate_mixStands ..).composedKept
  · have held (k : Area) (f : Entry → Entry) : MixStands x s ((s.updateEntry k i f).setGate i .holding) :=
      (updateEntry_mixStands ..).trans (setGate_mixStands ..)
    exact .ite (((held ..).trans (expireHold_mixStands ..)).composedKept.trans (updateNom_composedKept ..))
      (held ..).composedKept

theorem qualify_composedKept (i : Fin 24) (n : Nat) : ComposedKept x s (s.qualify i n) := by
  have counted : MixStands x s (s.setInput i { s.input i with gate := .qualifying, qualifying := n }) :=
    setInput_mixStands_of_settings x s rfl
  exact counted.composedKept.trans (.ite (requestAdmission_composedKept ..) (.refl _))

theorem gateAct_composedKept (i : Fin 24) (b : Band) : ComposedKept x s (s.gateAct i b) := by
  unfold State.gateAct
  split
  · exact qualify_composedKept ..
  · exact .refl s
  · exact qualify_composedKept ..
  · exact (closeGate_mixStands ..).composedKept
  · exact requestAdmission_composedKept ..
  · exact (closeGate_mixStands ..).composedKept
  · exact quietFrame_composedKept ..
  · exact .refl s
  · exact (loudFrame_mixStands ..).composedKept
  · exact .refl s

theorem inputFrame_composedKept (i : Fin 24) (samples : List Int) : ComposedKept x s (s.inputFrame i samples) := by
  have written (t : State) {y : Input} (settings : y.settings = (t.input i).settings) :
      ComposedKept x t (t.setInput i y) := (setInput_mixStands_of_settings x t settings).composedKept
  have heard : ComposedKept x s (s.setInput i ((s.input i).hear samples)) := written s (hear_settings ..)
  have gated (t : State) : ComposedKept x t (t.gateStage i) := .ite (gateAct_composedKept ..) (.refl _)
  have tracked (t : State) (g : GateState) : ComposedKept x t (t.trackStage i g) :=
    .ite (written t (track_settings ..)) (.refl t)
  exact ComposedKept.trans (.ite heard (heard.trans ((gated _).trans (tracked ..)))) (written _ (stepGain_settings ..))

theorem holdTick_composedKept (k : Area) : ComposedKept x s (s.holdTick k) := by
  have ticked (list : List Entry) : MixStands x s (s.setArea k { s.area k with list, tickTaken := true }) :=
    setArea_mixStands x s rfl rfl
  have expired (xs : List (Fin 24)) (t : State) : MixStands x t (xs.foldl (fun s i => s.expireHold k i) t) :=
    foldl_touches MixStands.refl MixStands.trans _ (fun s i => expireHold_mixStands x s k i) xs t
  exact .ite (((ticked _).trans (expired ..)).composedKept.trans (updateNom_composedKept ..)) (.refl s)

theorem holdExpiry_composedKept (i : Fin 24) : ComposedKept x s (s.holdExpiry i) := by
  unfold State.holdExpiry
  split
  · exact .refl s
  · exact .ite ((expireHold_mixStands ..).composedKept.trans (updateNom_composedKept ..)) (.refl s)

end

end Sys2Proof.Machine
end

section
/-! SUPPORT. A property that a command, a recall or a start-up finds in the part and leaves in it. -/

namespace Sys2Proof.Machine

open Sys2Proof.Safety

/-- A property of the part before is one of the part after. -/
structure Keeps (P : State → Prop) (s t : State) : Prop where
  kept : P s → P t

variable {P : State → Prop} {s t u : State}

theorem Keeps.refl (s : State) : Keeps P s s := ⟨id⟩

theorem Keeps.trans (h : Keeps P s t) (k : Keeps P t u) : Keeps P s u := ⟨k.kept ∘ h.kept⟩

theorem Keeps.ite {c : Prop} [Decidable c] (h : Keeps P s t) (k : Keeps P s u) : Keeps P s (if c then t else u) := by
  split
  · exact h
  · exact k

/-- A property that holds of the part after, whatever the part was before. -/
theorem Keeps.of_holds (h : P t) : Keeps P s t := ⟨fun _ => h⟩

/-! ### The alarm and the stores, of which a property is told by what their changes and a recall keep -/

/-- What the alarm, the key switch and the stores do, apart from recalls. -/
structure AlarmKeeps (P : State → Prop) : Prop where
  raise : ∀ s k n v, Keeps P s (State.raise s k n v)
  alarm : ∀ (s : State) alarm, Keeps P s { s with alarm }
  key : ∀ (s : State) key, Keeps P s { s with key }
  selectors : ∀ s source, Keeps P s (State.setSelectors s source)
  finished : ∀ s op, s.operation = some op → Keeps P s (State.finishOperation s op)
  recalled : ∀ s k scene mode keepTrims cause, State.slot s k = .valid scene →
    Keeps P s (State.recall s k scene mode keepTrims cause)

theorem slot_of_fallbackScene {k : Fin 64} {scene : Scene} (h : s.fallbackScene = some (k, scene)) :
    s.slot k = .valid scene := by
  unfold State.fallbackScene at h
  split at h
  · cases h
  · split at h
    · next slot => cases h; exact slot
    · cases h

namespace AlarmKeeps

variable (keep : AlarmKeeps P)
include keep

theorem enterAlarmState (s : State) (state : AlarmState) : Keeps P s (s.enterAlarmState state) :=
  (keep.alarm ..).trans (keep.raise ..)

theorem enterFault (s : State) (cause : FaultCause) (action : ActionTaken) : Keeps P s (s.enterFault cause action) :=
  ((keep.alarm ..).trans (keep.enterAlarmState ..)).trans (keep.raise ..)

theorem takeOverride (s : State) (cause : OverrideCause) : Keeps P s (s.takeOverride cause) := by
  have held {c : Prop} [Decidable c] : Keeps P s (if c then s.setSelectors .alarmSource else s) :=
    .ite (keep.selectors ..) (.refl s)
  exact (held.trans (keep.alarm ..)).trans (keep.raise ..)

theorem expireSupervision (s : State) : Keeps P s s.expireSupervision := by
  unfold State.expireSupervision
  split
  · exact keep.enterFault ..
  · exact (keep.enterFault ..).trans (keep.takeOverride ..)
  · split
    · exact keep.enterFault ..
    · next found =>
      refine (keep.enterFault ..).trans (keep.recalled _ _ _ _ _ _ ?_)
      rw [State.slot, (enterFault_coreStands ..).store]
      exact slot_of_fallbackScene found

theorem enterArmed (s : State) : Keeps P s s.enterArmed := by
  have armed : Keeps P s ((s.loadTimer 1).enterAlarmState .armed) := (keep.alarm ..).trans (keep.enterAlarmState ..)
  exact .ite (armed.trans (keep.expireSupervision _)) armed

theorem decideAutoArm (s : State) : Keeps P s s.decideAutoArm := .ite (keep.enterArmed s) (.refl s)

theorem keySample (s : State) (level : Bool) : Keeps P s (s.keySample level) := by
  unfold State.keySample
  dsimp only
  split
  · split
    · exact (keep.key ..).trans (.ite (keep.alarm ..) (keep.decideAutoArm _))
    · exact (keep.key ..).trans (keep.raise ..)
  · exact keep.key ..

theorem supervisionTick (s : State) : Keeps P s s.supervisionTick := by
  unfold State.supervisionTick
  split
  · exact .ite ((keep.alarm ..).trans (keep.expireSupervision _)) (keep.alarm ..)
  · exact .refl s

theorem takeDeferredDecision (s : State) : Keeps P s s.takeDeferredDecision :=
  .ite ((keep.alarm ..).trans (keep.decideAutoArm _)) (.refl s)

theorem completeStore (s : State) : Keeps P s s.completeStore := by
  unfold State.completeStore
  split
  · exact .refl s
  · next flies =>
    refine Keeps.trans ?_ (keep.raise ..)
    split
    · exact (keep.finished _ _ flies).trans (keep.takeDeferredDecision _)
    · exact keep.finished _ _ flies

end AlarmKeeps

/-! ### The panels, of which a property is told by what the trims that they set keep -/

/-- R110, R112: a trim that a panel can set: one taken within the zone's limits, or its default. -/
def ZoneScene.TrimTaken (z : ZoneScene) (trim : Int) : Prop := (∃ asked, trim = z.limitTrim asked) ∨ trim = z.trimDefault

/-- What the panels do. -/
structure PanelsKeep (P : State → Prop) : Prop where
  raise : ∀ s k n v, Keeps P s (State.raise s k n v)
  panel : ∀ s n p, Keeps P s (State.setPanel s n p)
  trimmed : ∀ s n z trim, (State.zone s z).scene.TrimTaken trim → Keeps P s (State.panelTrim s n z trim)

namespace PanelsKeep

variable (keep : PanelsKeep P)
include keep

theorem takeDetent (s : State) (n : Fin 8) (d : Detent) : Keeps P s (s.takeDetent n d) := by
  unfold State.takeDetent
  split
  · exact .refl s
  · next z _ =>
    have limited (t : State) (zone : t.zone z = s.zone z) (asked : Int) :
        Keeps P t (t.panelTrim n z ((s.zone z).scene.limitTrim asked)) :=
      keep.trimmed _ _ _ _ (.inl ⟨asked, by rw [zone]⟩)
    dsimp only
    split
    · exact limited s rfl _
    · exact (keep.panel s n _).trans (limited (s.setPanel n _) rfl _)

theorem takePush (s : State) (n : Fin 8) : Keeps P s (s.takePush n) := by
  unfold State.takePush
  split
  · exact .refl s
  · exact (keep.panel ..).trans (keep.trimmed _ _ _ _ (.inr rfl))

theorem illegalTransition (s : State) (n : Fin 8) : Keeps P s (s.illegalTransition n) :=
  .ite (keep.panel ..) ((keep.panel ..).trans (keep.raise ..))

theorem takeEdge (s : State) (n : Fin 8) (step : Int) : Keeps P s (s.takeEdge n step) := by
  unfold State.takeEdge
  dsimp only
  split
  · exact keep.panel ..
  · exact (keep.panel ..).trans (keep.takeDetent ..)

theorem decodeLines (s : State) (n : Fin 8) : Keeps P s (s.decodeLines n) := by
  unfold State.decodeLines
  dsimp only
  split
  · split
    · exact keep.panel ..
    · split
      · exact (keep.panel ..).trans (keep.takeEdge ..)
      · exact (keep.panel ..).trans (keep.illegalTransition ..)
      · exact keep.panel ..
  · exact .refl s

theorem panelSample (s : State) (n : Fin 8) (levelA levelB levelZ : Bool) :
    Keeps P s (s.panelSample n levelA levelB levelZ) := by
  have decoded {c : Prop} [Decidable c] (t : State) : Keeps P t (if c then t.decodeLines n else t) :=
    .ite (keep.decodeLines t n) (.refl t)
  exact ((keep.panel ..).trans (decoded _)).trans (.ite (keep.takePush ..) (.refl _))

end PanelsKeep

end Sys2Proof.Machine
end

section
/-! PROOFS. O37: the live flags and the gain targets stay current. Every request and every event leaves what they are
composed of, or composes afresh the crosspoints for which it changes it. -/

namespace Sys2Proof.Machine

open Sys2Proof.Safety

/-- What keeps every crosspoint composed keeps the plan composed. -/
theorem keeps_of_composedKept {s t : State} (h : ∀ x, ComposedKept x s t) : Keeps PlanComposed s t :=
  ⟨fun composed x => (h x).kept (composed x)⟩

theorem keeps_of_mixStands {s t : State} (h : ∀ x, MixStands x s t) : Keeps PlanComposed s t :=
  keeps_of_composedKept fun x => (h x).composedKept

section
variable (x : Fin 384) (s : State)

/-! ### Input settings (R25, R68, R77) -/

/-- R25: settings that change an input's mode or its area leave those of other crosspoints. -/
theorem putInputSettings_composedKept {i : Fin 24} {new : InputSettings}
    (h : i = inputOf x → new.mode = (s.input i).settings.mode ∧ new.area = (s.input i).settings.area) :
    ComposedKept x s (s.putInputSettings i new) := by
  unfold State.putInputSettings
  split
  · next leaves =>
    have other : i ≠ inputOf x := fun same => by
      obtain ⟨mode, area⟩ := h same
      exact (withdraws_iff.1 leaves).elim (fun moved => moved area.symm) fun ⟨gated, other⟩ => other (mode.trans gated)
    have put : MixStands x s ((s.withdraw i).setInput i { (s.withdraw i).input i with settings := new }) :=
      (withdraw_mixStands x s i).trans (setInput_mixStands x _ fun same => absurd same other)
    dsimp only
    split
    · exact put.composedKept
    · exact put.composedKept.trans (updateNom_composedKept ..)
  · exact (setInput_mixStands x s h).composedKept

theorem putPriority_mixStands (i : Fin 24) : MixStands x s (s.putPriority i) := by
  unfold State.putPriority
  split
  · exact .refl s
  · exact updateEntry_mixStands ..

theorem inputPlaced_composedKept {i : Fin 24} {new : InputSettings}
    (h : i = inputOf x → new.mode = (s.input i).settings.mode ∧ new.area = (s.input i).settings.area) :
    ComposedKept x s (s.inputPlaced i new) := by
  have listed : ComposedKept x s (s.inputListed i new) :=
    .ite (putInputSettings_composedKept x s h)
      ((putInputSettings_composedKept x s h).trans (putPriority_mixStands ..).composedKept)
  exact .ite listed (listed.trans (retime_mixStands ..).composedKept)

/-- R69: an input that changes its mode or its area has its crosspoints evaluated afresh. -/
theorem changeInput_composedKept (i : Fin 24) (new : InputSettings) : ComposedKept x s (s.changeInput i new) := by
  by_cases stands : new = (s.input i).settings
  · rw [stands, changeInput_self]; exact .refl s
  · rw [changeInput_of_change stands]
    have aimed (h : i = inputOf x → new.mode = (s.input i).settings.mode ∧ new.area = (s.input i).settings.area) :
        ComposedKept x s ((s.inputPlaced i new).retarget (onlyInput i)) :=
      (inputPlaced_composedKept x s h).trans (retarget_mixStands ..).composedKept
    split
    · next same => exact aimed fun _ => same
    · exact ⟨fun composed => reevaluate_composed x _ fun other =>
        (aimed fun own => absurd own.symm (by simpa [ofInput] using other)).kept composed⟩

/-! ### Areas (R46 to R48, R59, R61) -/

theorem changeAreaSettings_composedKept (k : Area) (new : AreaSettings) :
    ComposedKept x s (s.changeAreaSettings k new) := by
  have put : MixStands x s (s.setArea k { s.area k with settings := new }) := setArea_mixStands x s rfl rfl
  exact .ite (((put.trans (applySettings_mixStands ..)).composedKept.trans (updateNom_composedKept ..)).trans
    (retarget_mixStands ..).composedKept) put.composedKept

theorem changePause_composedKept (k : Area) (paused : Bool) : ComposedKept x s (s.changePause k paused) := by
  have put : MixStands x s (s.setArea k { s.area k with paused }) := setArea_mixStands x s rfl rfl
  exact .ite (.refl s) (ComposedKept.trans
    (.ite ((put.trans (releaseRetained_mixStands ..)).composedKept.trans (updateNom_composedKept ..)) put.composedKept)
    (retarget_mixStands ..).composedKept)

/-! ### Zones, sends and geometry (R8, R71, R74, R110) -/

/-- R74, R77: a zone's crosspoints are composed afresh from its new fields, and evaluated where its area changes. -/
theorem changeZone_composedKept (z : Fin 16) (new : ZoneScene) : ComposedKept x s (s.changeZone z new) := by
  refine ⟨fun composed => ?_⟩
  have put (scene : ZoneScene) (trim : Int) (other : ofZone z x = false) :
      Composed x (s.setZone z { s.zone z with scene, trim }) :=
    (setZone_mixStands x s fun own => absurd own.symm (by simpa [ofZone] using other)).composed composed
  unfold State.changeZone
  dsimp only
  split
  · next same =>
    refine recompose_composed x _ (composed.1.trans ?_) (put _ _)
    have area (w : Fin 16) : ((s.setZone z { s.zone z with
        scene := new, trim := limitInt new.trimMin new.trimMax (s.zone z).trim }).zone w).scene.area
          = (s.zone w).scene.area := by
      rw [setZone_zone]
      split
      · next own => exact own ▸ same
      · rfl
    unfold State.liveOf State.zoneArea
    rw [area]
    rfl
  · exact reevaluate_composed x _ (put _ _)

/-- R71: the crosspoints whose send changes are evaluated afresh. -/
theorem changeSends_composedKept (i : Fin 24) (first : Fin 16) (values : List Int) :
    ComposedKept x s (s.changeSends i first values) := by
  refine ⟨fun composed => reevaluate_composed x _ fun stands => ?_⟩
  have sends : (carriedSend i first values x).getD (s.crosspoint x).send = (s.crosspoint x).send := by
    simpa using stands
  refine ((updateCrosspoints_onlyPlan ..).mixStands_of_record ?_).composed composed
  rw [updateCrosspoints_crosspoint]
  simp only [sends, ite_self]

theorem changeZoneGeometry_mixStands (z : Fin 16) (new : ZoneGeometry) : MixStands x s (s.changeZoneGeometry z new) := by
  have put : MixStands x s (s.setZone z { s.zone z with geometry := new }) := setZone_mixStands x s fun _ => ⟨rfl, rfl⟩
  exact .ite (put.trans (retime_mixStands ..)) put

theorem changeStation_mixStands (n : Fin 32) (new : Station) : MixStands x s (s.changeStation n new) := by
  have put : MixStands x s { s with stations := s.stations.set n new } := .of_same rfl rfl rfl rfl
  exact .ite (put.trans (retime_mixStands ..)) put

theorem takeReport_mixStands (report : Int) : MixStands x s (s.takeReport report) := by
  have used : MixStands x s { s with reported := some report, used := report } := .of_same rfl rfl rfl rfl
  exact .ite ((used.trans (raise_mixStands ..)).trans (retime_mixStands ..)) (.of_same rfl rfl rfl rfl)

theorem takeClimate_mixStands (parts : ClimateParts) : MixStands x s (s.takeClimate parts) := by
  obtain ⟨report, settings⟩ := parts
  have set : MixStands x s (match settings with | none => s | some p => s.takeClimateSettings p.1 p.2) := by
    cases settings <;> exact .of_same rfl rfl rfl rfl
  cases report with
  | none => exact set
  | some report => exact set.trans (takeReport_mixStands ..)

/-- R110 to R112: a zone's new trim composes the gain targets of its crosspoints. -/
theorem panelTrim_composedKept (n : Fin 8) (z : Fin 16) (new : Int) : ComposedKept x s (s.panelTrim n z new) := by
  have trimmed : ComposedKept x s ((s.setZone z { s.zone z with trim := new }).recompose (ofZone z)) := by
    refine ⟨fun composed => recompose_composed x _ (composed.1.trans ?_) fun other => ?_⟩
    · have area (w : Fin 16) :
          ((s.setZone z { s.zone z with trim := new }).zone w).scene.area = (s.zone w).scene.area := by
        rw [setZone_zone]
        split
        · next own => rw [own]
        · rfl
      unfold State.liveOf State.zoneArea
      rw [area]
      rfl
    · exact (setZone_mixStands x s fun own => absurd own.symm (by simpa [ofZone] using other)).composed composed
  exact .ite (.refl s) (trimmed.trans (.ite (raise_mixStands ..).composedKept (.refl _)))

end

/-! ### Recalls and start-ups (R121, R135) -/

theorem raise_keepsPlanComposed (s : State) (k : NoticeKind) (n : Nat) (v : Int) :
    Keeps PlanComposed s (s.raise k n v) := keeps_of_mixStands fun x => raise_mixStands x s k n v

/-- R121 stage 8: a recall composes the whole plan. -/
theorem recall_planComposed (s : State) (k : Fin 64) (scene : Scene) (mode : RecallMode) (keepTrims : Bool)
    (cause : RecallCause) : PlanComposed (s.recall k scene mode keepTrims cause) := by
  refine (raise_keepsPlanComposed ..).kept ?_
  cases mode with
  | smooth => exact reckon_planComposed _
  | snap => exact (keeps_of_mixStands fun x => snapAll_mixStands x _).kept (reckon_planComposed _)

/-- R133: the factory live setup has no live crosspoint. -/
theorem cold_planComposed (store : Store) (pending : List Instr) (powered : Bool) :
    PlanComposed (State.cold store pending powered) := by
  intro x
  have record : (State.cold store pending powered).crosspoint x = Crosspoint.initial 576 := Table.get_replicate ..
  have input : (State.cold store pending powered).input (inputOf x) = Input.initial := Table.get_replicate ..
  rw [record]
  refine ⟨?_, rfl⟩
  unfold State.liveOf
  rw [input]
  rfl

/-! ### Requests and events -/

theorem alarm_keepsPlanComposed : AlarmKeeps PlanComposed where
  raise := raise_keepsPlanComposed
  alarm _ _ := keeps_of_mixStands fun _ => .of_same rfl rfl rfl rfl
  key _ _ := keeps_of_mixStands fun _ => .of_same rfl rfl rfl rfl
  selectors s _ := keeps_of_mixStands fun x => mapZones_mixStands x s fun _ _ => ⟨rfl, rfl⟩
  finished _ op _ := keeps_of_mixStands fun _ => by cases op <;> exact .of_same rfl rfl rfl rfl
  recalled s k scene mode keepTrims cause _ := .of_holds (recall_planComposed s k scene mode keepTrims cause)

theorem panels_keepPlanComposed : PanelsKeep PlanComposed where
  raise := raise_keepsPlanComposed
  panel s n p := keeps_of_mixStands fun x => setPanel_mixStands x s n p
  trimmed s n z trim _ := keeps_of_composedKept fun x => panelTrim_composedKept x s n z trim

theorem endOverride_mixStands (x : Fin 384) (s : State) : MixStands x s s.endOverride := by
  have caused : MixStands x s (s.setCause .noCause) := .of_same rfl rfl rfl rfl
  have selected (t : State) (source : ZoneSource) : MixStands x t (t.setSelectors source) :=
    mapZones_mixStands x t fun _ _ => ⟨rfl, rfl⟩
  exact ((caused.trans (floorReset_mixStands ..)).trans (selected ..)).trans (raise_mixStands ..)

theorem requests_meetPlanComposed : RequestsMeet (Keeps PlanComposed) where
  refl := .refl
  fetched _ _ _ := keeps_of_mixStands fun _ => .of_same rfl rfl rfl rfl
  subscribed _ _ := keeps_of_mixStands fun _ => .of_same rfl rfl rfl rfl
  restartAccepted _ _ := keeps_of_mixStands fun _ => .of_same rfl rfl rfl rfl
  latch _ _ := keeps_of_mixStands fun _ => .of_same rfl rfl rfl rfl
  changeInput s i new := keeps_of_composedKept fun x => changeInput_composedKept x s i new
  clearReversals s _ := keeps_of_mixStands fun x => setInput_mixStands_of_settings x s rfl
  changeZone s z new := keeps_of_composedKept fun x => changeZone_composedKept x s z new
  changeZoneGeometry s z new := keeps_of_mixStands fun x => changeZoneGeometry_mixStands x s z new
  changeStation s n new := keeps_of_mixStands fun x => changeStation_mixStands x s n new
  takeClimate s parts := keeps_of_mixStands fun x => takeClimate_mixStands x s parts
  changeSends s i first values := keeps_of_composedKept fun x => changeSends_composedKept x s i first values
  snapToTargets s which := keeps_of_mixStands fun x => snapToTargets_mixStands x s which
  changeAreaSettings s k new := keeps_of_composedKept fun x => changeAreaSettings_composedKept x s k new
  joinArea _ _ _ _ := .of_holds (reevaluate_planComposed _)
  splitArea _ _ _ _ := .of_holds (reevaluate_planComposed _)
  changePause s k paused := keeps_of_composedKept fun x => changePause_composedKept x s k paused
  setPanel s n p := keeps_of_mixStands fun x => setPanel_mixStands x s n p
  recalled := alarm_keepsPlanComposed.recalled
  acceptStore _ _ _ := keeps_of_mixStands fun _ => .of_same rfl rfl rfl rfl
  timer _ _ := alarm_keepsPlanComposed.alarm ..
  enterAlarmState := alarm_keepsPlanComposed.enterAlarmState
  enterArmed := alarm_keepsPlanComposed.enterArmed
  enterFault := alarm_keepsPlanComposed.enterFault
  takeOverride := alarm_keepsPlanComposed.takeOverride
  endOverride s := keeps_of_mixStands fun x => endOverride_mixStands x s

theorem requests_keepPlanComposed : RequestsKeep PlanComposed where
  line s line l := (keeps_of_mixStands fun x => setLine_mixStands x s line l).kept
  answered _ line kind body := (requests_meetPlanComposed.answerTo line kind body).kept

theorem frameBoundary_mixStands (x : Fin 384) (s : State) : MixStands x s s.frameBoundary :=
  ⟨by rw [frameBoundary_input], by rw [frameBoundary_input], fun k => by rw [frameBoundary_area]; rfl,
    fun k => by rw [frameBoundary_area]; rfl, by rw [frameBoundary_zone]; rfl, by rw [frameBoundary_zone]; rfl, rfl, rfl, rfl⟩

theorem events_keepPlanComposed : EventsKeep PlanComposed where
  inputFrame s i samples := (keeps_of_composedKept fun x => inputFrame_composedKept x s i samples).kept
  holdTick s k := (keeps_of_composedKept fun x => holdTick_composedKept x s k).kept
  holdExpiry s i := (keeps_of_composedKept fun x => holdExpiry_composedKept x s i).kept
  planFrameStep s audio := (keeps_of_mixStands fun x => planFrameStep_mixStands x s audio).kept
  moveEnd s y := (keeps_of_mixStands fun x => moveEnd_mixStands x s y).kept
  completeStore s := (alarm_keepsPlanComposed.completeStore s).kept
  panelSample s n levelA levelB levelZ := (panels_keepPlanComposed.panelSample s n levelA levelB levelZ).kept
  keySample s level := (alarm_keepsPlanComposed.keySample s level).kept
  supervisionTick s := (alarm_keepsPlanComposed.supervisionTick s).kept
  expireSupervision s := (alarm_keepsPlanComposed.expireSupervision s).kept
  startUp s := (startUp_started s).1.composed
  cold s := cold_planComposed s.store s.pending false
  frameBoundary s := (keeps_of_mixStands fun x => frameBoundary_mixStands x s).kept

end Sys2Proof.Machine

namespace Sys2Proof.Proofs

open Sys2Proof Sys2Proof.Machine Sys2Proof.Safety

/-- Settles O37: every request and every event leaves what a crosspoint is composed of (`MixStands`), or composes it
afresh from what it changes: an attenuation (`updateNom_composedKept`), a zone's fields (`changeZone_composedKept`) or its
trim, an input's mode or area (`changeInput_composedKept`), a send, or everything (`reevaluate_planComposed`). -/
theorem liveFlagsAndGainTargetsStayCurrent : Obligations.LiveFlagsAndGainTargetsStayCurrent := fun _ _ composed stepped =>
  step_keeps requests_keepPlanComposed events_keepPlanComposed
    (fun _ _ => (keeps_of_mixStands fun _ => .of_same rfl rfl rfl rfl).kept) composed stepped

end Sys2Proof.Proofs
end

section
/-! SUPPORT. R155 to R157: what the requests keep, told of the alarm's, of those that ask for a store operation or a
recall, and of the checks that every request makes first. -/

namespace Sys2Proof.Machine

open Sys2Proof.Safety

variable {P : State → Prop} {s : State}

theorem Keeps.fitting {fits : Bool} {a : Answer} (h : Keeps P s a.state) : Keeps P s (s.fitting fits a).state :=
  ⟨fun p => fitting_keeps p (h.kept p)⟩

theorem Keeps.withTarget {α : Type} {target : Option α} {a : α → Answer} (h : ∀ t, Keeps P s (a t).state) :
    Keeps P s (s.withTarget target a).state := ⟨fun p => withTarget_keeps p fun t => (h t).kept p⟩

theorem Keeps.withValue {α : Type} {value : Option α} {a : α → Answer} (h : ∀ v, Keeps P s (a v).state) :
    Keeps P s (s.withValue value a).state := ⟨fun p => withValue_keeps p fun v => (h v).kept p⟩

/-- One answer or another. -/
theorem Keeps.answer_ite {c : Prop} [Decidable c] {a b : Answer} (h : Keeps P s a.state) (k : Keeps P s b.state) :
    Keeps P s (if c then a else b).state := by
  split
  · exact h
  · exact k

theorem Keeps.storeRequest {op : StoreOp} (latch : Keeps P s { s with latch := false })
    (accepted : Keeps P s (s.acceptStore op)) (clamped : Bool) : Keeps P s (s.storeRequest op clamped).state :=
  .answer_ite (.refl s) (.answer_ite (.refl s) (.answer_ite latch (.answer_ite (.refl s) accepted)))

theorem Keeps.pauseRequest (h : ∀ k paused, Keeps P s (s.changePause k paused)) (body : List Byte) (paused : Bool) :
    Keeps P s (s.pauseRequest body paused).state :=
  .fitting (.withTarget fun _ => .answer_ite (h ..) (.refl s))

theorem Keeps.answerSplt (h : ∀ x y, Keeps P s (s.splitArea x y)) (body : List Byte) :
    Keeps P s (s.answerSplt body).state := by
  refine .fitting (.withTarget fun x => ?_)
  split
  · exact .refl s
  · exact h ..

namespace AlarmKeeps

variable (keep : AlarmKeeps P) (s)
include keep

theorem recallSlot (k : Fin 64) (mode : RecallMode) (keepTrims : Bool) :
    Keeps P s (s.recallSlot k mode keepTrims).state := by
  refine .answer_ite (.refl s) ?_
  split
  · exact .refl s
  · exact .refl s
  · next slot => exact keep.recalled _ _ _ _ _ _ slot

theorem armFirst : Keeps P s s.armFirst.state := by
  unfold State.armFirst
  split
  · exact .answer_ite (.refl s) (keep.enterAlarmState ..)
  · exact .refl s
  · exact .refl s
  · exact .refl s

theorem armSecond (enable : Bool) : Keeps P s (s.armSecond enable).state := by
  unfold State.armSecond
  split
  · exact .refl s
  · exact .answer_ite (keep.enterArmed s) (keep.enterAlarmState ..)
  · exact .refl s
  · exact .refl s

theorem endOverride (reset : ∀ t, Keeps P t t.floorReset) : Keeps P s s.endOverride :=
  (((keep.alarm ..).trans (reset _)).trans (keep.selectors ..)).trans (keep.raise ..)

theorem supervise (phase : Nat) : Keeps P s (s.supervise phase).state := by
  unfold State.supervise
  split
  · exact .answer_ite (keep.alarm ..) (.answer_ite (keep.alarm ..) (keep.enterFault ..))
  · exact keep.enterFault ..
  · exact .refl s

/-- The requests of the safety line, in the order of Table 9-4. -/
theorem answerSafety (reset : ∀ t, Keeps P t t.floorReset) (kind : Byte) (body : List Byte) :
    Keeps P s (s.answerSafety kind body).state := by
  unfold State.answerSafety
  split
  · refine .fitting ?_
    unfold State.alarmOn
    split
    · exact keep.takeOverride ..
    · exact .refl s
    · exact .refl s
  · refine .fitting ?_
    unfold State.alarmOff
    split
    · exact .refl s
    · exact keep.endOverride s reset
    · exact .refl s
  · exact .fitting (keep.supervise ..)
  · exact .refl s

end AlarmKeeps

end Sys2Proof.Machine
end

section
/-! PROOFS. O44: every trim stays within its zone's limits, and the limits of every scene held stay sound. -/

namespace Sys2Proof.Machine

open Sys2Proof.Safety

/-- R72, R113: a zone's limits are sound, and its trim lies within them. -/
def Zone.TrimSound (z : Zone) : Prop :=
  LimitsSound z.scene ∧ z.scene.trimMin ≤ z.trim ∧ z.trim ≤ z.scene.trimMax

theorem trimsWithinLimits_iff {s : State} : TrimsWithinLimits s ↔ (∀ z, (s.zone z).TrimSound)
    ∧ ∀ scene, HoldsScene s scene → ∀ z, LimitsSound (scene.zones.get z) := .rfl

/-! ### Limits (R72, R73, R113) -/

theorem limitInt_within {low high : Int} (h : low ≤ high) (v : Int) :
    low ≤ limitInt low high v ∧ limitInt low high v ≤ high := by
  rw [limitInt_eq h]
  omega

theorem LimitsSound.ordered {z : ZoneScene} (h : LimitsSound z) : z.trimMin ≤ z.trimMax := by
  obtain ⟨_, default_low, default_high, _⟩ := h
  exact default_low.trans default_high

/-- R73: the scene fields that a ZNSET puts in force. -/
theorem limit_limitsSound (x : ZoneScene) : LimitsSound x.limit := by
  have low := limitInt_within (low := -300) (high := 0) (by decide) x.trimMin
  have high := limitInt_within (low := 0) (high := 60) (by decide) x.trimMax
  have default := limitInt_within (low.2.trans high.1) x.trimDefault
  exact ⟨low.1, default.1, default.2, high.2⟩

/-- R110, R112, R113: a trim that a panel or a recall sets. -/
theorem trimTaken_within {z : ZoneScene} (sound : LimitsSound z) {trim : Int} (taken : z.TrimTaken trim) :
    z.trimMin ≤ trim ∧ trim ≤ z.trimMax := by
  rcases taken with ⟨asked, rfl⟩ | rfl
  · exact limitInt_within (LimitsSound.ordered sound) asked
  · obtain ⟨_, low, high, _⟩ := sound
    exact ⟨low, high⟩

/-! ### Changes that leave the trims and the limits -/

/-- From `s` to `t` the scene fields and the trims of the zones stand, and no scene comes to be held. -/
structure TrimsStand (s t : State) : Prop where
  scene : ∀ z, (t.zone z).scene = (s.zone z).scene
  trim : ∀ z, (t.zone z).trim = (s.zone z).trim
  held : ∀ scene, HoldsScene t scene → HoldsScene s scene

section
variable {s t : State}

theorem TrimsStand.keeps (h : TrimsStand s t) : Keeps TrimsWithinLimits s t := ⟨fun ⟨zones, scenes⟩ => by
  refine ⟨fun z => ?_, fun scene held => scenes scene (h.held scene held)⟩
  rw [h.scene, h.trim]
  exact zones z⟩

theorem TrimsStand.of_same (zones : t.zones = s.zones) (store : t.store = s.store)
    (operation : t.operation = s.operation) : TrimsStand s t :=
  ⟨fun _ => by rw [State.zone, zones]; rfl, fun _ => by rw [State.zone, zones]; rfl,
    fun scene => (holdsScene_congr store operation scene).1⟩

theorem keepsTrims_of_same (zones : t.zones = s.zones) (store : t.store = s.store)
    (operation : t.operation = s.operation) : Keeps TrimsWithinLimits s t :=
  (TrimsStand.of_same zones store operation).keeps

theorem OnlyMixing.keepsTrims (h : OnlyMixing s t) : Keeps TrimsWithinLimits s t := by
  obtain ⟨_, _, _, _, _, rfl⟩ := h
  exact keepsTrims_of_same rfl rfl rfl

theorem OnlyPlan.keepsTrims (h : OnlyPlan s t) : Keeps TrimsWithinLimits s t := h.mixing.keepsTrims

theorem OnlyLists.keepsTrims (h : OnlyLists s t) : Keeps TrimsWithinLimits s t := h.mixing.keepsTrims

theorem OnlyLists.zones (h : OnlyLists s t) : t.zones = s.zones := by
  obtain ⟨_, _, _, _, rfl⟩ := h; rfl

end

section
variable (s : State)

theorem mapZones_keepsTrims {f : Fin 16 → Zone → Zone} (h : ∀ z y, (f z y).scene = y.scene ∧ (f z y).trim = y.trim) :
    Keeps TrimsWithinLimits s { s with zones := s.zones.mapIdx f } := by
  refine TrimsStand.keeps ⟨fun z => ?_, fun z => ?_, fun scene => (holdsScene_congr rfl rfl scene).1⟩ <;>
    simp only [State.zone, Table.get_mapIdx, h]

/-- A zone that is written with a trim within sound limits. -/
theorem setZone_keepsTrims {z : Fin 16} {y : Zone} (h : (s.zone z).TrimSound → y.TrimSound) :
    Keeps TrimsWithinLimits s (s.setZone z y) := ⟨fun ⟨zones, scenes⟩ => by
  refine ⟨fun w => ?_, scenes⟩
  rw [setZone_zone]
  split
  · exact h (zones z)
  · exact zones w⟩

theorem raise_keepsTrims (k : NoticeKind) (n : Nat) (v : Int) : Keeps TrimsWithinLimits s (s.raise k n v) :=
  (raise_onlyNotices s k n v).plan.keepsTrims

/-! ### Zones, geometry and panels -/

/-- R74: a zone's new fields and trim, and the plan composed from them. -/
theorem changeZone_onlyPlan (z : Fin 16) (new : ZoneScene) :
    OnlyPlan (s.setZone z { s.zone z with scene := new, trim := limitInt new.trimMin new.trimMax (s.zone z).trim })
      (s.changeZone z new) := by
  refine OnlyPlan.trans ?_ (recompose_onlyPlan ..)
  split
  · exact .refl _
  · exact relive_onlyPlan ..

theorem changeZone_keepsTrims (z : Fin 16) {new : ZoneScene} (sound : LimitsSound new) :
    Keeps TrimsWithinLimits s (s.changeZone z new) := by
  have put : Keeps TrimsWithinLimits s
      (s.setZone z { s.zone z with scene := new, trim := limitInt new.trimMin new.trimMax (s.zone z).trim }) :=
    setZone_keepsTrims s fun _ => ⟨sound, limitInt_within (LimitsSound.ordered sound) _⟩
  exact put.trans (changeZone_onlyPlan s z new).keepsTrims

theorem changeZoneGeometry_keepsTrims (z : Fin 16) (new : ZoneGeometry) :
    Keeps TrimsWithinLimits s (s.changeZoneGeometry z new) := by
  have put : Keeps TrimsWithinLimits s (s.setZone z { s.zone z with geometry := new }) := setZone_keepsTrims s id
  exact .ite (put.trans (retime_onlyPlan ..).keepsTrims) put

theorem changeStation_keepsTrims (n : Fin 32) (new : Station) : Keeps TrimsWithinLimits s (s.changeStation n new) := by
  have put : Keeps TrimsWithinLimits s { s with stations := s.stations.set n new } := keepsTrims_of_same rfl rfl rfl
  exact .ite (put.trans (retime_onlyPlan ..).keepsTrims) put

theorem takeClimate_keepsTrims (parts : ClimateParts) : Keeps TrimsWithinLimits s (s.takeClimate parts) := by
  obtain ⟨report, settings⟩ := parts
  have set : Keeps TrimsWithinLimits s (match settings with | none => s | some p => s.takeClimateSettings p.1 p.2) := by
    cases settings <;> exact keepsTrims_of_same rfl rfl rfl
  have reported (t : State) (report : Int) : Keeps TrimsWithinLimits t (t.takeReport report) := by
    have used : Keeps TrimsWithinLimits t { t with reported := some report, used := report } :=
      keepsTrims_of_same rfl rfl rfl
    exact .ite ((used.trans (raise_keepsTrims ..)).trans (retime_onlyPlan ..).keepsTrims)
      (keepsTrims_of_same rfl rfl rfl)
  cases report with
  | none => exact set
  | some report => exact set.trans (reported ..)

/-- R110, R112: a panel sets a trim that lies within the limits. -/
theorem panelTrim_keepsTrims (n : Fin 8) (z : Fin 16) {trim : Int} (taken : (s.zone z).scene.TrimTaken trim) :
    Keeps TrimsWithinLimits s (s.panelTrim n z trim) := by
  have put : Keeps TrimsWithinLimits s (s.setZone z { s.zone z with trim }) :=
    setZone_keepsTrims s fun sound => ⟨sound.1, trimTaken_within sound.1 taken⟩
  exact .ite (.refl s) ((put.trans (recompose_onlyPlan ..).keepsTrims).trans (.ite (raise_keepsTrims ..) (.refl _)))

theorem panels_keepTrims : PanelsKeep TrimsWithinLimits where
  raise := raise_keepsTrims
  panel _ _ _ := keepsTrims_of_same rfl rfl rfl
  trimmed s n z _ taken := panelTrim_keepsTrims s n z taken

/-! ### Recalls and start-ups (R113, R121, R135) -/

/-- R121, stage 2: a scene's fields of every zone are in force. -/
theorem putScene_zone (scene : Scene) (z : Fin 16) :
    (s.putScene scene).zone z = { s.zone z with scene := scene.zones.get z } := by
  have zones : (s.putScene scene).zones
      = s.zones.mapIdx fun z (x : Zone) => { x with scene := scene.zones.get z } := by
    unfold State.putScene
    dsimp only
    generalize allAreas = areas
    rw [(foldl_touches OnlyLists.refl OnlyLists.trans _ setNom_onlyLists areas _).zones,
      (foldl_touches OnlyLists.refl OnlyLists.trans _ (fun t k => areaConsequence_onlyLists t _ k) areas _).zones,
      (changeMap_onlyLists ..).zones, State.putAreas, State.putFields,
      (foldl_touches OnlyLists.refl OnlyLists.trans _ (fun t i => withdrawFor_onlyLists t scene i) _ s).zones]
  rw [State.zone, zones]
  exact Table.get_mapIdx ..

/-- R113, R121 stage 6: a recall leaves each zone the scene's fields, and a trim that they allow. -/
theorem recall_zone (k : Fin 64) (scene : Scene) (mode : RecallMode) (keepTrims : Bool) (cause : RecallCause)
    (z : Fin 16) : ((s.recall k scene mode keepTrims cause).zone z).scene = scene.zones.get z
      ∧ (scene.zones.get z).TrimTaken ((s.recall k scene mode keepTrims cause).zone z).trim := by
  have put : ((s.putScene scene).putTrims keepTrims).zone z
      = { s.zone z with
          scene := scene.zones.get z
          trim := if keepTrims then (scene.zones.get z).limitTrim (s.zone z).trim else (scene.zones.get z).trimDefault } := by
    refine (Table.get_mapIdx ..).trans ?_
    rw [← State.zone, putScene_zone]
  have recalled : (s.recall k scene mode keepTrims cause).zone z = ((s.putScene scene).putTrims keepTrims).zone z := by
    unfold State.recall
    rw [raise_zone]
    cases mode with
    | smooth => exact reckon_zone ..
    | snap => exact ((snapAll_onlyPlan _).zone z).trans (reckon_zone ..)
  rw [recalled, put]
  refine ⟨rfl, ?_⟩
  cases keepTrims with
  | true => exact .inl ⟨_, rfl⟩
  | false => exact .inr rfl

/-- R121: a recall of a scene that a VALID slot holds. -/
theorem recall_keepsTrims {k : Fin 64} {scene : Scene} (slot : s.slot k = .valid scene) (mode : RecallMode)
    (keepTrims : Bool) (cause : RecallCause) :
    Keeps TrimsWithinLimits s (s.recall k scene mode keepTrims cause) := ⟨fun ⟨_, scenes⟩ => by
  refine ⟨fun z => ?_, fun other held => scenes other ?_⟩
  · obtain ⟨fields, taken⟩ := recall_zone s k scene mode keepTrims cause z
    have sound := scenes scene (.inl ⟨k, slot⟩) z
    rw [fields]
    exact ⟨sound, trimTaken_within sound taken⟩
  · obtain ⟨_, _, _, _, _, _, _, e⟩ := recall_onlySetup s k scene mode keepTrims cause
    rw [e] at held
    exact (holdsScene_congr rfl rfl other).1 held⟩

theorem factory_limitsSound : LimitsSound ZoneScene.factory := by unfold LimitsSound; decide

/-- R131, R135: a part that sets out from the stored contents holds the scenes of their VALID slots. -/
theorem held_of_stored {s t : State} (store : t.store = s.store) (operation : t.operation = none) {scene : Scene}
    (held : HoldsScene t scene) : HoldsScene s scene :=
  .inl (by simpa [HoldsScene, State.slot, store, operation] using held)

/-- R135: a start-up takes the limits of the scene it recalls, or the factory ones, and the trim defaults. -/
theorem startUp_keepsTrims : Keeps TrimsWithinLimits s s.startUp := ⟨fun ⟨_, scenes⟩ => by
  obtain ⟨_, _, _, _, _, _, _, e⟩ := startUp_eq s
  have store : s.startUp.store = s.store := (congrArg State.store e :)
  have operation : s.startUp.operation = none := congrArg State.operation e
  refine ⟨fun z => ?_, fun scene held => scenes scene (held_of_stored store operation held)⟩
  have sound : LimitsSound (((s.store.startupRecall.map Prod.snd).getD Scene.factory).zones.get z) := by
    cases recalled : s.store.startupRecall with
    | none => exact (factory_zones z).symm ▸ factory_limitsSound
    | some found =>
      obtain ⟨_, _, _, slot⟩ := startupRecall_iff.1 recalled
      exact scenes found.2 (.inl ⟨found.1, slot⟩) z
  rw [(startUp_started s).1.zone]
  exact ⟨sound, trimTaken_within sound (.inr rfl)⟩⟩

theorem cold_keepsTrims : Keeps TrimsWithinLimits s (State.cold s.store s.pending false) := ⟨fun ⟨_, scenes⟩ => by
  refine ⟨fun z => ?_, fun scene held => scenes scene
    (held_of_stored (s := s) (t := State.cold s.store s.pending false) rfl rfl held)⟩
  have zone : (State.cold s.store s.pending false).zone z = Zone.initial := Table.get_replicate ..
  rw [zone]
  exact ⟨factory_limitsSound, by decide⟩⟩

/-! ### The stores and the alarm (R119, R123, R131) -/

/-- R119, R123: an accepted operation holds at most the live setup besides the scenes held before. -/
theorem acceptStore_keepsTrims {op : StoreOp} (live : ∀ k scene, op = .scst k scene → ∃ label, scene = s.liveSetup label) :
    Keeps TrimsWithinLimits s (s.acceptStore op) := ⟨fun ⟨zones, scenes⟩ => by
  refine ⟨zones, fun scene held z => ?_⟩
  rcases held with ⟨k, slot⟩ | ⟨k, accepted⟩
  · exact scenes scene (.inl ⟨k, begin_slot s slot⟩) z
  · obtain ⟨label, rfl⟩ := live k scene (Option.some.inj accepted)
    have fields : (s.liveSetup label).zones.get z = (s.zone z).scene := Table.get_mapIdx ..
    rw [fields]
    exact (zones z).1⟩

/-- R131: a completion holds no scene that was not held before, in a slot or in the operation. -/
theorem held_of_finished {op : StoreOp} (flies : s.operation = some op) {scene : Scene}
    (held : HoldsScene (s.finishOperation op) scene) : HoldsScene s scene := by
  obtain ⟨_, _, store, operation⟩ := finishOperation_coreParts s op
  simp only [HoldsScene, State.slot, store, operation, reduceCtorEq, exists_false, or_false] at held
  obtain ⟨k, slot⟩ := held
  cases op with
  | scst j written =>
    rw [Store.complete, Table.get_set] at slot
    split at slot
    · cases slot; exact .inr ⟨j, flies⟩
    · exact .inl ⟨k, slot⟩
  | scer j =>
    rw [Store.complete, Table.get_set] at slot
    split at slot
    · cases slot
    · exact .inl ⟨k, slot⟩
  | bldw | alcf | prot => exact .inl ⟨k, slot⟩

theorem finishOperation_zones (op : StoreOp) : (s.finishOperation op).zones = s.zones := by cases op <;> rfl

theorem alarm_keepsTrims : AlarmKeeps TrimsWithinLimits where
  raise := raise_keepsTrims
  alarm _ _ := keepsTrims_of_same rfl rfl rfl
  key _ _ := keepsTrims_of_same rfl rfl rfl
  selectors s _ := mapZones_keepsTrims s fun _ _ => ⟨rfl, rfl⟩
  finished s op flies := TrimsStand.keeps
    ⟨fun _ => by rw [State.zone, finishOperation_zones]; rfl, fun _ => by rw [State.zone, finishOperation_zones]; rfl,
      fun _ => held_of_finished s flies⟩
  recalled s _ _ mode keepTrims cause slot := recall_keepsTrims s slot mode keepTrims cause

/-! ### Requests and commands -/

theorem storeRequest_keepsTrims {op : StoreOp} (clamped : Bool)
    (live : ∀ k scene, op = .scst k scene → ∃ label, scene = s.liveSetup label) :
    Keeps TrimsWithinLimits s (s.storeRequest op clamped).state :=
  .storeRequest (keepsTrims_of_same rfl rfl rfl) (acceptStore_keepsTrims s live) clamped

/-- The requests of the control line, in the order of Table 9-3. -/
theorem answerControl_keepsTrims (kind : Byte) (body : List Byte) :
    Keeps TrimsWithinLimits s (s.answerControl kind body).state := by
  have same {t : State} (zones : t.zones = s.zones) (store : t.store = s.store) (operation : t.operation = s.operation) :
      Keeps TrimsWithinLimits s t := keepsTrims_of_same zones store operation
  have paused (k : Area) (paused : Bool) := (changePause_onlyMixing s k paused).keepsTrims
  unfold State.answerControl
  split
  · exact .fitting (.refl s)
  · exact .fitting (same rfl rfl rfl)
  · exact .fitting (.withValue fun _ => same rfl rfl rfl)
  · exact .fitting (.withTarget fun _ => .withValue fun _ => (changeInput_onlyMixing ..).keepsTrims)
  · exact .fitting (.withTarget fun _ => same rfl rfl rfl)
  · exact .fitting (.withTarget fun _ => .withValue fun x => changeZone_keepsTrims s _ (limit_limitsSound x))
  · exact .fitting (.withTarget fun _ => .refl s)
  · exact .fitting (.withTarget fun _ => .withValue fun _ => changeZoneGeometry_keepsTrims ..)
  · exact .fitting (.withTarget fun _ => .withValue fun _ => changeStation_keepsTrims ..)
  · exact .fitting (.withTarget fun _ => .refl s)
  · exact .fitting (.withValue fun _ => takeClimate_keepsTrims ..)
  · exact .fitting (.withTarget fun _ => same rfl rfl rfl)
  · exact .fitting (.withTarget fun _ => .refl s)
  · exact .fitting (.withTarget fun _ => (snapToTargets_onlyPlan ..).keepsTrims)
  · exact .fitting (.withTarget fun _ => .withValue fun _ => (changeAreaSettings_onlyMixing ..).keepsTrims)
  · exact .fitting (.withTarget fun _ => .refl s)
  · exact .fitting (.withTarget fun _ => .answer_ite (joinArea_onlyMixing ..).keepsTrims (.refl s))
  · exact .answerSplt (fun x y => (splitArea_onlyMixing s x y).keepsTrims) body
  · exact .pauseRequest paused ..
  · exact .pauseRequest paused ..
  · exact .fitting (.withTarget fun _ => .withValue fun _ => panels_keepTrims.panel ..)
  · exact .fitting (.withTarget fun _ => panels_keepTrims.panel ..)
  · exact .fitting (.withTarget fun _ => .withValue fun _ => alarm_keepsTrims.recallSlot ..)
  · refine .fitting (.withTarget fun _ => .withValue fun label => storeRequest_keepsTrims s false ?_)
    rintro _ _ ⟨⟩
    exact ⟨label, rfl⟩
  · exact .fitting (.withTarget fun _ => storeRequest_keepsTrims s _ nofun)
  · exact .fitting (.withTarget fun _ => .refl s)
  · exact .fitting (.withValue fun _ => storeRequest_keepsTrims s _ nofun)
  · exact .fitting (same rfl rfl rfl)
  · exact .fitting (same rfl rfl rfl)
  · exact .fitting (.withValue fun _ => storeRequest_keepsTrims s _ nofun)
  · exact .fitting (.withValue fun _ => storeRequest_keepsTrims s _ nofun)
  · exact .fitting (.refl s)
  · exact .fitting (alarm_keepsTrims.armFirst s)
  · exact .fitting (.withValue fun _ => alarm_keepsTrims.armSecond ..)
  · exact .fitting (.answer_ite (.refl s) (.answer_ite (.refl s) (same rfl rfl rfl)))
  · exact .refl s

theorem requests_keepTrims : RequestsKeep TrimsWithinLimits where
  line _ _ _ := (keepsTrims_of_same (by simp) (by simp) (by simp)).kept
  answered s line kind body := by
    cases line with
    | control => exact (answerControl_keepsTrims s kind body).kept
    | safety =>
      exact (alarm_keepsTrims.answerSafety s (fun t => (floorReset_onlyPlan t).keepsTrims) kind body).kept

theorem frameBoundary_keepsTrims : Keeps TrimsWithinLimits s s.frameBoundary :=
  TrimsStand.keeps ⟨fun z => by rw [frameBoundary_zone]; rfl, fun z => by rw [frameBoundary_zone]; rfl,
    fun scene => (holdsScene_congr rfl rfl scene).1⟩

theorem planFrameStep_keepsTrims (audio : AudioFrame) : Keeps TrimsWithinLimits s (s.planFrameStep audio) :=
  TrimsStand.keeps ⟨fun z => by rw [planFrameStep_zone], fun z => by rw [planFrameStep_zone],
    fun scene => (holdsScene_congr rfl rfl scene).1⟩

end

/-- Every command keeps the trims within their limits. -/
theorem exec_keepsTrims {c : Instr} {s t : State} (h : TrimsWithinLimits s) (e : exec c s = .next t) :
    TrimsWithinLimits t := by
  have requests := requests_keepTrims
  have event (f : State → State) (e : s.whenPowered f = .next t) (kept : Keeps TrimsWithinLimits s (f s)) :
      TrimsWithinLimits t := whenPowered_keeps f h e (kept.kept h)
  have fed (line : Line) (bytes : List Byte) : Keeps TrimsWithinLimits s (s.feed line bytes) := ⟨requests.feed bytes⟩
  have discarded (line : Line) : Keeps TrimsWithinLimits s (s.discardPartial line) := .ite ⟨requests.setReceiver _⟩ (.refl s)
  cases named : requestOf c with
  | some request =>
    rcases exec_of_requestOf named s with r | r
    · exact requests.accepted _ _ h (r.symm.trans e)
    · exact requests.request id h (r.symm.trans e)
  | none =>
    cases c with
    | checkFailed line bytes => exact event (fun s => s.feed line (startByteValue :: bytes)) e (fed ..)
    | startByte line following => exact event (fun s => s.feed line (startByteValue :: following)) e (fed ..)
    | frameDuringReply line => exact event (fun s => s) e (.refl s)
    | framingError line => exact event (fun s => s.discardPartial line) e (discarded line)
    | partialFrameGap line => exact event (fun s => s.discardPartial line) e (discarded line)
    | replySent line =>
      exact event (fun s => s.setLine line { s.line line with reply := none }) e ⟨requests.line _ _ _⟩
    | inputFrame i samples => exact event (fun s => s.inputFrame i samples) e (inputFrame_onlyMixing ..).keepsTrims
    | holdTick k => exact event (fun s => s.holdTick k) e (holdTick_onlyMixing ..).keepsTrims
    | holdExpiry i => exact event (fun s => s.holdExpiry i) e (holdExpiry_onlyMixing ..).keepsTrims
    | planFrameStep audio => exact event (fun s => s.planFrameStep audio) e (planFrameStep_keepsTrims ..)
    | moveEnd x =>
      exact event (fun s => s.setCrosspoint x (s.settleMove x (s.crosspoint x))) e (keepsTrims_of_same rfl rfl rfl)
    | storeCompletion => exact event (fun s => s.completeStore) e (alarm_keepsTrims.completeStore s)
    | panelSample n levelA levelB levelZ =>
      exact event (fun s => s.panelSample n levelA levelB levelZ) e (panels_keepTrims.panelSample ..)
    | keySwitchSample level => exact event (fun s => s.keySample level) e (alarm_keepsTrims.keySample s level)
    | supervisionTick => exact event (fun s => s.supervisionTick) e (alarm_keepsTrims.supervisionTick s)
    | supervisionExpiry =>
      exact event (fun s => if s.supervisionOver then s.expireSupervision else s) e
        (.ite (alarm_keepsTrims.expireSupervision s) (.refl s))
    | powerOn => cases e; exact (startUp_keepsTrims s).kept h
    | restart => exact event (fun s => if s.restartDue then s.startUp else s) e (.ite (startUp_keepsTrims s) (.refl s))
    | powerLoss => cases e; exact (cold_keepsTrims s).kept h
    | frameBoundary => exact event (fun s => s.frameBoundary) e (frameBoundary_keepsTrims s)
    | _ => cases named

end Sys2Proof.Machine

namespace Sys2Proof.Proofs

open Sys2Proof Sys2Proof.Machine Sys2Proof.Safety

/-- Settles O44: a trim is set within limits that are sound (`trimTaken_within`), the limits come from a ZNSET
(`limit_limitsSound`), a scene held (`recall_keepsTrims`) or manufacture, and a scene comes to be held from the live setup
alone (`acceptStore_keepsTrims`); everything else leaves them (`TrimsStand`). -/
theorem trimsStayWithinTheirLimits : Obligations.TrimsStayWithinTheirLimits := fun s t sound stepped => by
  unfold step at stepped
  split at stepped
  · cases stepped; exact sound
  · next rest _ =>
    have waits : TrimsStand s { s with pending := rest } := .of_same rfl rfl rfl
    exact exec_keepsTrims (waits.keeps.kept sound) stepped

end Sys2Proof.Proofs
end

section
/-! PROOFS. O39 and O40: ZNSET, SEND and SNAP. -/

namespace Sys2Proof.Machine

open Sys2Proof.Safety

/-! ### The requests taken (R155) -/

section
variable {s : State} (ready : Ready s .control) (tag : Byte) (body : List Byte)
include ready

theorem exec_znset : exec (.znset tag body) s = .next ((s.answerZnset body).settle .control 0x0A tag) :=
  request_ready ready 0x0A tag body fun s => s.answerZnset body
theorem exec_send : exec (.send tag body) s = .next ((s.answerSend body).settle .control 0x18 tag) :=
  request_ready ready 0x18 tag body fun s => s.answerSend body
theorem exec_snap : exec (.snap tag body) s = .next ((s.answerSnap body).settle .control 0x1A tag) :=
  request_ready ready 0x1A tag body fun s => s.answerSnap body

end

@[simp] theorem setLine_liveOf (s : State) (line : Line) (l : LineState) (x : Fin 384) (send : Int) :
    (s.setLine line l).liveOf x send = s.liveOf x send := by cases line <;> rfl

@[simp] theorem setLine_gainTargetOf (s : State) (line : Line) (l : LineState) (x : Fin 384) (p : Crosspoint) :
    (s.setLine line l).gainTargetOf x p = s.gainTargetOf x p := by cases line <;> rfl

/-! ### Bodies read back (R71, R73, R174) -/

section
variable {body : List Byte} {o : Nat}

theorem readZoneScene_of_holds {x : ZoneScene} (h : Holds body o x.bytes) (sent : ZoneSceneSent x) :
    readZoneScene body o = some x := by
  obtain ⟨level, default, low, high⟩ := sent
  simp only [ZoneScene.bytes, holds_append, List.length_append, areaByte_eq, length_byteOf, length_word16] at h
  simp only [← areaByte_eq] at h
  obtain ⟨⟨⟨⟨harea, hlevel⟩, hdefault⟩, hlow⟩, hhigh⟩ := h
  rw [readZoneScene, areaOrNone_of_holds harea, int16At_of_holds hlevel level, int16At_of_holds hdefault default,
    int16At_of_holds hlow low, int16At_of_holds hhigh high]
  rfl

/-- R73: the limits are taken first, and the default within them. -/
theorem zoneSceneLimit_eq (x : ZoneScene) : x.limit = zoneSceneTaken x := by
  have ordered : max (-300) (min 0 x.trimMin) ≤ max 0 (min 60 x.trimMax) := by omega
  rw [ZoneScene.limit, zoneSceneTaken, limitInt_eq (show (-300 : Int) ≤ 0 by decide),
    limitInt_eq (show (0 : Int) ≤ 60 by decide), limitInt_eq (show (-600 : Int) ≤ 60 by decide)]
  rw [limitInt_eq ordered]

theorem readSends_of_holds {values : List Int} (h : Holds body 2 (values.flatMap word16))
    (ends : body.length = 2 + 2 * values.length) (sent : ∀ v ∈ values, Signed16 v) : readSends body = values := by
  have count : (body.length - 2) / 2 = values.length := by omega
  rw [readSends, count]
  refine List.ext_getElem (by simp) fun k _ within => ?_
  rw [List.getElem_map, List.getElem_range]
  exact int16At_of_holds (holds_flatMap_of_size length_word16 h (List.getElem?_eq_getElem within))
    (sent _ (List.getElem_mem within))

theorem limitSend_eq (v : Int) : limitSend v = sendTaken v := by
  unfold limitSend sendTaken
  split_ifs <;> omega

end

/-! ### How the requests are settled (R155 to R157) -/

section
variable (s : State)

theorem answerZnset_of_holds {body : List Byte} {z : Fin 16} {x : ZoneScene}
    (held : Holds body 0 (byteOf (z.val + 1) ++ x.bytes)) (ends : body.length = 10) (sent : ZoneSceneSent x) :
    s.answerZnset body = ⟨s.changeZone z (zoneSceneTaken x), doneUnless (zoneSceneTaken x ≠ x), []⟩ := by
  obtain ⟨zone, record⟩ := holds_append.1 held
  rw [State.answerZnset, show lengthIs body 10 = true from decide_eq_true ends, fitting_true,
    oneBased_of_holds zone (by decide), withTarget_some, readZoneScene_of_holds (o := 1) record sent, withValue_some,
    zoneSceneLimit_eq, doneOrClamped_decide]

theorem answerSend_of_holds {body : List Byte} {i : Fin 24} {z : Fin 16} {values : List Int}
    (held : Holds body 0 (byteOf (i.val + 1) ++ byteOf (z.val + 1) ++ values.flatMap word16))
    (ends : body.length = 2 + 2 * values.length) (nonempty : values ≠ []) (fits : z.val + values.length ≤ 16)
    (sent : ∀ v ∈ values, Signed16 v) :
    s.answerSend body
      = ⟨s.changeSends i z (values.map sendTaken), doneUnless (values.map sendTaken ≠ values), []⟩ := by
  obtain ⟨named, sends⟩ := holds_append.1 held
  obtain ⟨input, zone⟩ := holds_append.1 named
  have read : readSends body = values := readSends_of_holds sends ends sent
  have taken : values.map limitSend = values.map sendTaken := List.map_congr_left fun v _ => limitSend_eq v
  have count := List.length_pos_iff.2 nonempty
  have target : readSendTarget body = some (i, z) := by
    rw [readSendTarget, oneBased_of_holds input (by decide), oneBased_of_holds (o := 1) zone (by decide), read]
    exact if_pos fits
  rw [State.answerSend, show sendFits body = true from decide_eq_true (by omega), fitting_true, target, withTarget_some,
    read, taken]
  dsimp only
  rw [doneOrClamped_decide]

theorem answerSnap_of_holds {body : List Byte} {zone : Option (Fin 16)} (held : Holds body 0 (indexByte zone))
    (ends : body.length = 1) : s.answerSnap body = ⟨s.snapToTargets (snapCovers zone), .done, []⟩ := by
  rw [State.answerSnap, show lengthIs body 1 = true from decide_eq_true ends, fitting_true,
    zeroOrOneBased_of_holds held (by decide), withTarget_some]

/-! ### What a ZNSET does (R68, R74, R76) -/

/-- R74: a zone's new fields, with its trim within the new limits. -/
def State.putZoneScene (s : State) (z : Fin 16) (new : ZoneScene) : State :=
  s.setZone z { s.zone z with scene := new, trim := limitInt new.trimMin new.trimMax (s.zone z).trim }

theorem putZoneScene_crosspoint (z : Fin 16) (new : ZoneScene) (x : Fin 384) :
    (s.putZoneScene z new).crosspoint x = s.crosspoint x := rfl

theorem changeZone_of_sameArea {z : Fin 16} {new : ZoneScene} (h : new.area = (s.zone z).scene.area) :
    s.changeZone z new = (s.putZoneScene z new).recompose (ofZone z) := by
  unfold State.changeZone
  dsimp only
  rw [if_pos h]
  rfl

theorem changeZone_of_newArea {z : Fin 16} {new : ZoneScene} (h : new.area ≠ (s.zone z).scene.area) :
    s.changeZone z new = (s.putZoneScene z new).reevaluate (ofZone z) := by
  unfold State.changeZone
  dsimp only
  rw [if_neg h]
  rfl

/-- A ZNSET writes the zones and the crosspoint records alone. -/
theorem changeZone_eq (z : Fin 16) (new : ZoneScene) : s.changeZone z new
    = { s with zones := (s.changeZone z new).zones, crosspoints := (s.changeZone z new).crosspoints } := by
  by_cases h : new.area = (s.zone z).scene.area
  · rw [changeZone_of_sameArea s h]; rfl
  · rw [changeZone_of_newArea s h]; rfl

theorem changeZone_zone (z w : Fin 16) (new : ZoneScene) : (s.changeZone z new).zone w
    = if z = w then { s.zone z with scene := new, trim := limitInt new.trimMin new.trimMax (s.zone z).trim }
      else s.zone w := ((changeZone_onlyPlan s z new).zone w).trans (setZone_zone ..)

theorem changeZone_crosspoint_other {z : Fin 16} (new : ZoneScene) {x : Fin 384} (other : zoneOf x ≠ z) :
    (s.changeZone z new).crosspoint x = s.crosspoint x := by
  have unnamed : ofZone z x = false := by simpa [ofZone] using other
  by_cases h : new.area = (s.zone z).scene.area
  · rw [changeZone_of_sameArea s h, recompose_crosspoint, unnamed]; rfl
  · rw [changeZone_of_newArea s h, reevaluate_crosspoint_other _ unnamed]; rfl

/-- R74: a zone's crosspoint keeps all but its live flag and its gain target. -/
theorem changeZone_crosspoint (z : Fin 16) (new : ZoneScene) (x : Fin 384) : (s.changeZone z new).crosspoint x
    = { s.crosspoint x with live := ((s.changeZone z new).crosspoint x).live,
                            targetGain := ((s.changeZone z new).crosspoint x).targetGain } := by
  by_cases h : new.area = (s.zone z).scene.area
  · rw [changeZone_of_sameArea s h, recompose_crosspoint, putZoneScene_crosspoint]
    split <;> rfl
  · rw [changeZone_of_newArea s h, reevaluate_crosspoint, putZoneScene_crosspoint]

section
variable {s} {z : Fin 16} {new : ZoneScene} {x : Fin 384} (own : zoneOf x = z)
include own

/-- R76: the gain target of a zone's crosspoint is composed from the new fields. -/
theorem changeZone_targetGain :
    ((s.changeZone z new).crosspoint x).targetGain
      = (s.changeZone z new).gainTargetOf x ((s.changeZone z new).crosspoint x) := by
  have named : ofZone z x = true := by simp [ofZone, own]
  by_cases h : new.area = (s.zone z).scene.area
  · rw [changeZone_of_sameArea s h]; exact recompose_targetGain x _ named
  · rw [changeZone_of_newArea s h]; exact recompose_targetGain x _ named

/-- R68: a new area evaluates the live flags of the zone's crosspoints. -/
theorem changeZone_live_of_newArea (h : new.area ≠ (s.zone z).scene.area) :
    ((s.changeZone z new).crosspoint x).live = (s.changeZone z new).liveOf x (s.crosspoint x).send := by
  rw [changeZone_of_newArea s h]
  exact reevaluate_live x _ (by simp [ofZone, own])

end

theorem changeZone_live_of_sameArea {z : Fin 16} {new : ZoneScene} (h : new.area = (s.zone z).scene.area)
    (x : Fin 384) : ((s.changeZone z new).crosspoint x).live = (s.crosspoint x).live := by
  rw [changeZone_of_sameArea s h, recompose_crosspoint, putZoneScene_crosspoint]
  split <;> rfl

/-! ### What a SEND does (R70, R71) -/

/-- R71: the crosspoints of another input or before or after the run carry no send. -/
theorem carriedSend_outside {i : Fin 24} {z : Fin 16} {values : List Int} {x : Fin 384}
    (h : inputOf x ≠ i ∨ (zoneOf x).val < z.val ∨ z.val + values.length ≤ (zoneOf x).val) :
    carriedSend i z values x = none := by
  unfold carriedSend
  split
  · next within =>
    obtain ⟨own, after⟩ := within
    have after : z.val ≤ (zoneOf x).val := after
    rcases h with other | before | beyond
    · exact absurd own other
    · omega
    · exact List.getElem?_eq_none (by omega)
  · rfl

/-- R71: the crosspoint at each place of the run carries the value at that place. -/
theorem carriedSend_inside {i : Fin 24} {z : Fin 16} {values : List Int} {x : Fin 384} {n : Nat} (own : inputOf x = i)
    (within : n < values.length) (place : (zoneOf x).val = z.val + n) :
    carriedSend i z (values.map sendTaken) x = some (sendTaken (values.getD n 0)) := by
  have after : z ≤ zoneOf x := Fin.le_def.2 (by omega)
  rw [carriedSend, if_pos ⟨own, after⟩, show (zoneOf x).val - z.val = n by omega, List.getElem?_map,
    List.getElem?_eq_getElem within, List.getD_eq_getElem _ _ within]
  rfl

section
variable (i : Fin 24) (z : Fin 16) (values : List Int) (x : Fin 384)

/-- R71: the send that a crosspoint has after a SEND. -/
def State.sendAfter (s : State) (i : Fin 24) (z : Fin 16) (values : List Int) (x : Fin 384) : Int :=
  (carriedSend i z values x).getD (s.crosspoint x).send

/-- R71: all values of a SEND written. -/
def State.putSends (s : State) (i : Fin 24) (z : Fin 16) (values : List Int) : State :=
  s.updateCrosspoints everyCrosspoint fun x p => { p with send := s.sendAfter i z values x }

theorem changeSends_eq : s.changeSends i z values
    = (s.putSends i z values).reevaluate fun x => s.sendAfter i z values x != (s.crosspoint x).send := rfl

theorem putSends_crosspoint :
    (s.putSends i z values).crosspoint x = { s.crosspoint x with send := s.sendAfter i z values x } :=
  updateCrosspoints_crosspoint ..

theorem changeSends_send : ((s.changeSends i z values).crosspoint x).send = s.sendAfter i z values x := by
  rw [changeSends_eq, (reevaluate_sends ..).1, putSends_crosspoint]

/-- A crosspoint whose send stands, stands whole. -/
theorem changeSends_crosspoint_of_same (h : s.sendAfter i z values x = (s.crosspoint x).send) :
    (s.changeSends i z values).crosspoint x = s.crosspoint x := by
  rw [changeSends_eq, reevaluate_crosspoint_other _ (by simp [h]), putSends_crosspoint, h]

/-- R71: a crosspoint whose send changes is evaluated, and keeps its active gain and its delays. -/
theorem changeSends_crosspoint_of_new (h : s.sendAfter i z values x ≠ (s.crosspoint x).send) :
    ((s.changeSends i z values).crosspoint x).live
        = (s.changeSends i z values).liveOf x ((s.changeSends i z values).crosspoint x).send
      ∧ ((s.changeSends i z values).crosspoint x).targetGain
        = (s.changeSends i z values).gainTargetOf x ((s.changeSends i z values).crosspoint x)
      ∧ ((s.changeSends i z values).crosspoint x).activeGain = (s.crosspoint x).activeGain
      ∧ SameDelays (s.crosspoint x) ((s.changeSends i z values).crosspoint x) := by
  obtain ⟨live, target⟩ : Composed x (s.changeSends i z values) :=
    reevaluate_composed x _ fun same => absurd (by simpa [State.sendAfter] using same) h
  refine ⟨live, target, ?_⟩
  rw [changeSends_eq, reevaluate_crosspoint, putSends_crosspoint]
  exact ⟨rfl, rfl, rfl, rfl, rfl⟩

end

/-! ### What a SNAP does (R86, R87) -/

theorem snapToTargets_crosspoint (which : Fin 384 → Bool) (x : Fin 384) : (s.snapToTargets which).crosspoint x
    = if which x then { (s.crosspoint x).snap with activeGain := (s.crosspoint x).targetGain } else s.crosspoint x :=
  updateCrosspoints_crosspoint ..

theorem snapCovers_iff {zone : Option (Fin 16)} {x : Fin 384} :
    snapCovers zone x = true ↔ zone = none ∨ zone = some (zoneOf x) := by
  cases zone with
  | none => simp [snapCovers]
  | some z => simpa [snapCovers, ofZone] using eq_comm

end

end Sys2Proof.Machine

namespace Sys2Proof.Proofs

open Sys2Proof Sys2Proof.Machine Sys2Proof.Safety

/-- Settles O39: a ZNSET writes the fields and the trim of its zone, and composes the zone's crosspoints from them. -/
theorem znsetSetsAZonesSceneFields : Obligations.ZnsetSetsAZonesSceneFields := by
  intro s tag z x ready sent
  have taken := exec_znset ready tag (byteOf (z.val + 1) ++ x.bytes)
  rw [answerZnset_of_holds s (holds_self _) (by simp) sent] at taken
  have ordered : (zoneSceneTaken x).trimMin ≤ (zoneSceneTaken x).trimMax :=
    LimitsSound.ordered (zoneSceneLimit_eq x ▸ limit_limitsSound x)
  refine ⟨_, taken, ?frame, settle_replied .., ?zone, fun w other => ?others, fun y other => ?elsewhere,
    fun y own => ⟨?record, ?target, fun new => ?evaluated, fun same => ?stands⟩⟩
  case frame => rw [Answer.settle, changeZone_eq]; rfl
  case zone => rw [Answer.settle, setLine_zone, changeZone_zone, if_pos rfl, limitInt_eq ordered]
  case others => rw [Answer.settle, setLine_zone, changeZone_zone, if_neg (Ne.symm other)]
  case elsewhere => rw [Answer.settle, setLine_crosspoint]; exact changeZone_crosspoint_other s _ other
  case record => rw [Answer.settle, setLine_crosspoint]; exact changeZone_crosspoint ..
  case target => rw [Answer.settle, setLine_crosspoint, setLine_gainTargetOf]; exact changeZone_targetGain own
  case evaluated => rw [Answer.settle, setLine_crosspoint, setLine_liveOf]; exact changeZone_live_of_newArea own new
  case stands => rw [Answer.settle, setLine_crosspoint]; exact changeZone_live_of_sameArea s (new := zoneSceneTaken x) same y

/-- A SEND leaves the crosspoints that carry no value, and writes and evaluates the others. -/
theorem sendWritesARun (s : State) (tag : Byte) (i : Fin 24) (z : Fin 16) (values : List Int) (ready : Ready s .control)
    (nonempty : values ≠ []) (fits : z.val + values.length ≤ 16) (sent : ∀ v ∈ values, Signed16 v) :
    ∃ t, exec (.send tag (byteOf (i.val + 1) ++ byteOf (z.val + 1) ++ values.flatMap word16)) s = .next t
      ∧ t = { s with crosspoints := t.crosspoints, control := t.control }
      ∧ Replied t .control 0x18 tag (doneUnless (values.map sendTaken ≠ values)) []
      ∧ ∀ y : Fin 384,
          ((inputOf y ≠ i ∨ (zoneOf y).val < z.val ∨ z.val + values.length ≤ (zoneOf y).val) →
            t.crosspoint y = s.crosspoint y)
          ∧ (inputOf y = i → ∀ n, n < values.length → (zoneOf y).val = z.val + n →
            (t.crosspoint y).send = sendTaken (values.getD n 0)
            ∧ ((t.crosspoint y).send = (s.crosspoint y).send → t.crosspoint y = s.crosspoint y)
            ∧ ((t.crosspoint y).send ≠ (s.crosspoint y).send →
                (t.crosspoint y).live = t.liveOf y (t.crosspoint y).send
                ∧ (t.crosspoint y).targetGain = t.gainTargetOf y (t.crosspoint y)
                ∧ (t.crosspoint y).activeGain = (s.crosspoint y).activeGain
                ∧ SameDelays (s.crosspoint y) (t.crosspoint y))) := by
  have taken := exec_send ready tag (byteOf (i.val + 1) ++ byteOf (z.val + 1) ++ values.flatMap word16)
  rw [answerSend_of_holds s (holds_self _) (by simp [length_flatMap_of_size length_word16]; omega) nonempty fits sent] at taken
  refine ⟨_, taken, rfl, settle_replied .., fun y => ⟨fun outside => ?_, fun own n within place => ?_⟩⟩
  · rw [Answer.settle, setLine_crosspoint]
    refine changeSends_crosspoint_of_same s i z _ y ?_
    rw [State.sendAfter, carriedSend_outside (by simpa using outside)]
    rfl
  · rw [Answer.settle, setLine_crosspoint, setLine_liveOf, setLine_gainTargetOf, changeSends_send]
    refine ⟨?_, changeSends_crosspoint_of_same s i z _ y, fun new => ?_⟩
    · rw [State.sendAfter, carriedSend_inside own within place]
      rfl
    · rw [← changeSends_send]
      exact changeSends_crosspoint_of_new s i z _ y new

/-- Settles O40: a SEND by `sendWritesARun`; a SNAP writes the crosspoints that it covers. -/
theorem sendAndSnapWriteThePlan : Obligations.SendAndSnapWriteThePlan := by
  refine ⟨sendWritesARun, fun s tag zone ready => ?_⟩
  have taken := exec_snap ready tag (indexByte zone)
  rw [answerSnap_of_holds s (holds_self _) (by simp [indexByte_eq])] at taken
  refine ⟨_, taken, rfl, settle_replied .., fun y => ⟨fun covered => ?_, fun uncovered => ?_⟩⟩
  · rw [Answer.settle, setLine_crosspoint, snapToTargets_crosspoint, if_pos (snapCovers_iff.2 covered)]
    rfl
  · rw [Answer.settle, setLine_crosspoint, snapToTargets_crosspoint, if_neg fun covered =>
      (snapCovers_iff.1 covered).elim uncovered.1 uncovered.2]

end Sys2Proof.Proofs
end

section
/-! SUPPORT. The plan's frame step and the end of a move, case by case (R78, R80, R83, R84). -/

namespace Sys2Proof.Machine

open Sys2Proof.Safety

/-- R78: one step of a gain at a slew. -/
theorem rampGain_planRamp (slew : Nat) (active target : Int) :
    PlanRamp slew active target (rampGain slew active target) := by
  unfold PlanRamp rampGain
  split_ifs <;> omega

theorem inaudible_iff {s : State} {x : Fin 384} {p : Crosspoint} : s.inaudible x p = true ↔ Inaudible s x p := by
  simp [State.inaudible, Inaudible]

/-- R80: audibility turns on the input's mode and gate gain and on the active gain alone. -/
theorem inaudible_congr {s t : State} {x : Fin 384} {p q : Crosspoint} (gain : q.activeGain = p.activeGain)
    (input : t.input (inputOf x) = { s.input (inputOf x) with gainUsed := (t.input (inputOf x)).gainUsed }) :
    Inaudible t x q ↔ Inaudible s x p := by
  unfold Inaudible
  rw [gain, input]

/-! ### The end of a move (R84) -/

/-- R84: a crosspoint whose move has brought it to the delay moved to. -/
def Crosspoint.landed (p : Crosspoint) (m : Move) : Crosspoint :=
  { p with activeDelay := m.dest, move := none, pendingDelay := none }

theorem landed_of_none {p : Crosspoint} {m : Move} (h : p.pendingDelay = none) :
    p.landed m = { p with activeDelay := m.dest, move := none } := by
  rw [Crosspoint.landed, ← h]

theorem endMove_clamp (p : Crosspoint) (inaudible : Bool) (frames : Nat) :
    (p.endMove inaudible frames).clamp = p.clamp := by
  unfold Crosspoint.endMove
  split
  · rfl
  · dsimp only
    split
    · rfl
    · exact arrive_clamp ..

section
variable (s : State) (x : Fin 384) (p : Crosspoint)

theorem settleMove_clamp : (s.settleMove x p).clamp = p.clamp := by
  unfold State.settleMove
  split
  · exact endMove_clamp ..
  · rfl

variable {p}

/-- R84: a crosspoint without a move that is over stands. -/
theorem settleMove_of_running (running : ∀ m, p.move = some m → m.elapsed < m.length) : s.settleMove x p = p := by
  refine if_neg fun settled => ?_
  obtain ⟨m, moving, ended⟩ : ∃ m, p.move = some m ∧ decide (m.length ≤ m.elapsed) = true := by
    simpa [Crosspoint.moveOver, Option.any_eq_true] using settled
  exact absurd (of_decide_eq_true ended) (Nat.not_le.2 (running m moving))

variable {m : Move} (moving : p.move = some m) (ended : m.length ≤ m.elapsed)
include moving ended

theorem settleMove_of_over : s.settleMove x p = p.endMove (s.inaudible x p) (s.moveFrames (zoneOf x)) :=
  if_pos (by simpa [Crosspoint.moveOver, moving] using ended)

/-- R84: without a pending delay the move's end is where it led. -/
theorem settleMove_of_none (pending : p.pendingDelay = none) : s.settleMove x p = p.landed m := by
  rw [settleMove_of_over s x moving ended, Crosspoint.endMove]
  simp only [moving, pending, Crosspoint.landed]

/-- R84: a pending delay arrives where the move led. -/
theorem settleMove_of_pending {q : Nat} (pending : p.pendingDelay = some q) :
    TargetArrived (Inaudible s x p) (moveFramesAt s x) q (p.landed m) (s.settleMove x p) := by
  have arrived := arrive_targetArrived (p.landed m) (s.inaudible x p) (s.moveFrames (zoneOf x)) q
  have settled : s.settleMove x p = (p.landed m).arrive (s.inaudible x p) (s.moveFrames (zoneOf x)) q := by
    rw [settleMove_of_over s x moving ended, Crosspoint.endMove]
    simp only [moving, pending, Crosspoint.landed]
  rwa [propext inaudible_iff, ← settled] at arrived

end

/-- A crosspoint given its own record stands. -/
theorem setCrosspoint_stands (s : State) (x : Fin 384) : s.setCrosspoint x (s.crosspoint x) = s := by
  rw [State.setCrosspoint, State.crosspoint, Table.set_get]

/-- R81, R84: a target other than the delay landed at is taken at once, or by a new move. -/
theorem targetArrived_of_landed {inaudible : Prop} {frames q : Nat} {p r : Crosspoint} {m : Move}
    (h : TargetArrived inaudible frames q (p.landed m) r) (other : q ≠ m.dest) :
    r.pendingDelay = none ∧ r.targetDelay = q
      ∧ ((inaudible ∨ frames = 0) → r.move = none ∧ r.activeDelay = q)
      ∧ (¬ inaudible → frames ≠ 0 → r.move = some ⟨q, 0, frames⟩ ∧ r.activeDelay = m.dest) := by
  obtain ⟨target, steady, _⟩ := h
  obtain ⟨pending, _, atOnce, byMove⟩ := steady rfl
  exact ⟨pending, target, fun h => (atOnce other h).symm, fun audible lasts => (byMove other audible lasts).symm⟩

/-! ### A crosspoint's plan step (R78, R83, R84) -/

/-- R78, R83: a crosspoint within its plan step: its gain has ramped and its move has advanced. -/
def State.ramped (s : State) (x : Fin 384) (p : Crosspoint) : Crosspoint :=
  { p.advance with activeGain := rampGain (s.zone (zoneOf x)).geometry.slew p.activeGain p.targetGain }

section
variable (s : State) (x : Fin 384) (p : Crosspoint)

theorem stepped_eq : s.stepped x p = s.settleMove x (s.ramped x p) := rfl

variable {p}

theorem ramped_move {m : Move} (moving : p.move = some m) :
    (s.ramped x p).move = some { m with elapsed := m.elapsed + 1 } :=
  congrArg (Option.map fun m : Move => { m with elapsed := m.elapsed + 1 : Move }) moving

theorem ramped_move_of_steady (steady : p.move = none) : (s.ramped x p).move = none :=
  congrArg (Option.map fun m : Move => { m with elapsed := m.elapsed + 1 : Move }) steady

theorem stepped_of_steady (steady : p.move = none) : s.stepped x p = s.ramped x p :=
  settleMove_of_running s x fun _ moving => nomatch (ramped_move_of_steady s x steady).symm.trans moving

variable {m : Move} (moving : p.move = some m)
include moving

theorem stepped_of_running (running : m.elapsed + 1 < m.length) : s.stepped x p = s.ramped x p := by
  refine settleMove_of_running s x fun n advanced => ?_
  obtain rfl := Option.some.inj ((ramped_move s x moving).symm.trans advanced)
  exact running

variable (ended : m.length ≤ m.elapsed + 1)
include ended

theorem stepped_of_none (pending : p.pendingDelay = none) : s.stepped x p = (s.ramped x p).landed m :=
  settleMove_of_none (m := { m with elapsed := m.elapsed + 1 }) s x (ramped_move s x moving) ended pending

theorem stepped_of_pending {q : Nat} (pending : p.pendingDelay = some q) :
    TargetArrived (Inaudible s x (s.ramped x p)) (moveFramesAt s x) q ((s.ramped x p).landed m) (s.stepped x p) :=
  settleMove_of_pending s x (ramped_move s x moving) ended pending

end

section
variable (s : State) (audio : AudioFrame) (x : Fin 384)

theorem planFrameStep_ramp :
    PlanRamp (s.zone (zoneOf x)).geometry.slew (s.crosspoint x).activeGain (s.crosspoint x).targetGain
      ((s.planFrameStep audio).crosspoint x).activeGain := by
  rw [planFrameStep_crosspoint, stepped_eq, settleMove_activeGain]
  exact rampGain_planRamp ..

theorem planFrameStep_inaudible :
    Inaudible (s.planFrameStep audio) x ((s.planFrameStep audio).crosspoint x)
      ↔ Inaudible s x (s.ramped x (s.crosspoint x)) := by
  refine inaudible_congr ?_ (by rw [planFrameStep_input])
  rw [planFrameStep_crosspoint, stepped_eq, settleMove_activeGain]

end

end Sys2Proof.Machine
end

section
/-! PROOFS. O41: the plan's frame step and MOVE_END. -/

namespace Sys2Proof.Machine

open Sys2Proof.Safety

section
variable {s : State} (powered : s.powered = true)
include powered

theorem exec_planFrameStep (audio : AudioFrame) : exec (.planFrameStep audio) s = .next (s.planFrameStep audio) :=
  whenPowered_powered s (fun s => s.planFrameStep audio) powered

theorem exec_moveEnd (x : Fin 384) :
    exec (.moveEnd x) s = .next (s.setCrosspoint x (s.settleMove x (s.crosspoint x))) :=
  whenPowered_powered s (fun s => s.setCrosspoint x (s.settleMove x (s.crosspoint x))) powered

end

/-- R83, R84: what a plan step does to the delays of a MOVING crosspoint. -/
theorem planFrameStep_delays_of_moving (s : State) (audio : AudioFrame) (x : Fin 384) {m : Move}
    (moving : (s.crosspoint x).move = some m) {t : State} (step : t = s.planFrameStep audio) :
    (m.elapsed + 1 < m.length →
      (t.crosspoint x).move = some { m with elapsed := m.elapsed + 1 }
      ∧ (t.crosspoint x).activeDelay = (s.crosspoint x).activeDelay
      ∧ (t.crosspoint x).pendingDelay = (s.crosspoint x).pendingDelay)
    ∧ (m.length ≤ m.elapsed + 1 → (s.crosspoint x).pendingDelay = none →
      (t.crosspoint x).move = none ∧ (t.crosspoint x).activeDelay = m.dest ∧ (t.crosspoint x).pendingDelay = none)
    ∧ (m.length ≤ m.elapsed + 1 → ∀ q, (s.crosspoint x).pendingDelay = some q → q ≠ m.dest →
      (t.crosspoint x).pendingDelay = none ∧ (t.crosspoint x).targetDelay = q
      ∧ ((Inaudible t x (t.crosspoint x) ∨ moveFramesAt s x = 0) →
          (t.crosspoint x).move = none ∧ (t.crosspoint x).activeDelay = q)
      ∧ (¬ Inaudible t x (t.crosspoint x) → moveFramesAt s x ≠ 0 →
          (t.crosspoint x).move = some ⟨q, 0, moveFramesAt s x⟩ ∧ (t.crosspoint x).activeDelay = m.dest)) := by
  have audible := planFrameStep_inaudible s audio x
  rw [← step] at audible
  have record : t.crosspoint x = s.stepped x (s.crosspoint x) := step ▸ planFrameStep_crosspoint s audio x
  refine ⟨fun running => ?_, fun ended pending => ?_, fun ended q pending other => ?_⟩
  · rw [record, stepped_of_running s x moving running]
    exact ⟨ramped_move s x moving, rfl, rfl⟩
  · rw [record, stepped_of_none s x moving ended pending]
    exact ⟨rfl, rfl, rfl⟩
  · rw [propext audible, record]
    exact targetArrived_of_landed (stepped_of_pending s x moving ended pending) other

end Sys2Proof.Machine

namespace Sys2Proof.Proofs

open Sys2Proof Sys2Proof.Machine Sys2Proof.Safety

/-- Settles O41: the frame step ramps the gains and advances the moves, and MOVE_END settles a move that is over. -/
theorem planStepsRampGainsAndAdvanceMoves : Obligations.PlanStepsRampGainsAndAdvanceMoves := by
  refine ⟨fun s audio powered => ?step, fun s x m powered moving ended pending => ?arrived,
    fun s x m q powered moving ended pending => ?taken, fun s x powered running => ?notDue⟩
  case step =>
    refine ⟨_, exec_planFrameStep powered audio, rfl, fun i => planFrameStep_input .., fun z => ?_, fun x => ?_⟩
    · rw [planFrameStep_zone]
    have clamp : ((s.planFrameStep audio).crosspoint x).clamp = (s.crosspoint x).clamp := by
      rw [planFrameStep_crosspoint, stepped_eq, settleMove_clamp]; rfl
    have gains := planFrameStep_mixStands x s audio
    refine ⟨planFrameStep_ramp s audio x, gains.live, gains.send, gains.target, clamp, fun steady => ?_,
      fun m moving => ?_⟩
    · rw [planFrameStep_crosspoint, stepped_of_steady s x steady]
      exact ⟨rfl, rfl, (ramped_move_of_steady s x steady).trans steady.symm, rfl⟩
    obtain ⟨running, lands, takes⟩ := planFrameStep_delays_of_moving s audio x moving rfl
    refine ⟨running, lands, fun ended q pending other => ?_⟩
    obtain ⟨taken, target, atOnce, byMove⟩ := takes ended q pending other
    refine ⟨taken, target, ?_, fun h => atOnce (h.symm.imp_left And.right), fun lasts _ audible => byMove audible lasts⟩
    by_cases h : Inaudible (s.planFrameStep audio) x ((s.planFrameStep audio).crosspoint x) ∨ moveFramesAt s x = 0
    · exact .inl (atOnce h)
    · exact .inr (byMove (fun silent => h (.inl silent)) fun instant => h (.inr instant))
  case arrived =>
    rw [exec_moveEnd powered, settleMove_of_none s x moving ended pending, landed_of_none pending]
  case taken =>
    exact ⟨_, exec_moveEnd powered x, settleMove_sameGains x s _, settleMove_clamp ..,
      settleMove_of_pending s x moving ended pending⟩
  case notDue =>
    rw [exec_moveEnd powered, settleMove_of_running s x running, setCrosspoint_stands]

end Sys2Proof.Proofs
end

section
/-! PROOFS. O42: ramps and moves arrive. -/

namespace Sys2Proof.Machine

open Sys2Proof.Safety

/-! ### How long a ramp lasts (R78) -/

/-- R78: the plan steps of a ramp at the least slew, from the floor or to it by way of -600. -/
def rampSteps (active target : Int) : Nat :=
  if active = target then 0
  else if active = -1000 then (target + 601).toNat
  else if target = -1000 then (active + 601).toNat
  else (active - target).natAbs

theorem eq_of_rampSteps_eq_zero {active target : Int} (ha : GainInRange active) (ht : GainInRange target)
    (h : rampSteps active target = 0) : active = target := by
  unfold rampSteps at h
  unfold GainInRange at *
  split_ifs at h <;> omega

/-- The longest ramp is between the floor and +12.0 dB. -/
theorem rampSteps_le {active target : Int} (ha : GainInRange active) (ht : GainInRange target) :
    rampSteps active target ≤ 721 := by
  unfold rampSteps
  unfold GainInRange at *
  split_ifs <;> omega

theorem rampSteps_rampGain {slew : Nat} {active target : Int} (h : 1 ≤ slew) (ht : GainInRange target) :
    rampSteps (rampGain slew active target) target ≤ rampSteps active target - 1 := by
  unfold rampSteps rampGain
  unfold GainInRange at *
  split_ifs <;> omega

/-! ### Runs of plan steps -/

section
variable {s : State} (powered : s.powered = true)
include powered

theorem after_planFrameSteps_cons (frame : AudioFrame) (frames : List AudioFrame) :
    after ((frame :: frames).map .planFrameStep) s = after (frames.map .planFrameStep) (s.planFrameStep frame) := by
  rw [List.map_cons, after, List.foldl_cons, exec_planFrameStep powered]
  rfl

end

/-- R78: after the steps of its ramp a gain is at its target. -/
theorem after_activeGain {x : Fin 384} {target : Int} (inRange : GainInRange target) :
    ∀ (frames : List AudioFrame) (s : State), s.powered = true → 1 ≤ (s.zone (zoneOf x)).geometry.slew →
      (s.crosspoint x).targetGain = target → GainInRange (s.crosspoint x).activeGain →
      rampSteps (s.crosspoint x).activeGain target ≤ frames.length →
        ((after (frames.map .planFrameStep) s).crosspoint x).activeGain = target
  | [], s, _, _, _, active, steps => eq_of_rampSteps_eq_zero active inRange (Nat.le_zero.1 steps)
  | frame :: frames, s, powered, slew, aim, active, steps => by
    rw [after_planFrameSteps_cons powered]
    have ramped : ((s.planFrameStep frame).crosspoint x).activeGain
        = rampGain (s.zone (zoneOf x)).geometry.slew (s.crosspoint x).activeGain target := by
      rw [planFrameStep_crosspoint, stepped_eq, settleMove_activeGain, ← aim]
      rfl
    refine after_activeGain inRange frames _ powered (by rwa [planFrameStep_zone])
      ((planFrameStep_mixStands x s frame).target.trans aim) ?_ ?_ <;> rw [ramped]
    · exact rampGain_inRange active inRange
    · have fewer := rampSteps_rampGain (active := (s.crosspoint x).activeGain) slew inRange
      have := List.length_cons (a := frame) (as := frames)
      omega

section
variable {x : Fin 384}

/-- R83: a move that its steps do not end has advanced by them. -/
theorem after_move_of_running : ∀ (frames : List AudioFrame) (s : State) (m : Move), s.powered = true →
    (s.crosspoint x).move = some m → m.elapsed + frames.length < m.length →
      ((after (frames.map .planFrameStep) s).crosspoint x).move = some { m with elapsed := m.elapsed + frames.length }
  | [], _, _, _, moving, _ => moving
  | frame :: frames, s, m, powered, moving, running => by
    rw [List.length_cons] at running
    have stepped : ((s.planFrameStep frame).crosspoint x).move = some { m with elapsed := m.elapsed + 1 } :=
      ((planFrameStep_delays_of_moving s frame x moving rfl).1 (by omega)).1
    rw [after_planFrameSteps_cons powered,
      after_move_of_running frames (s.planFrameStep frame) { m with elapsed := m.elapsed + 1 } powered stepped
        (by dsimp only; omega), List.length_cons, Nat.add_comm frames.length 1, ← Nat.add_assoc]

/-- R84: a move with no pending delay ends with the last of its steps. -/
theorem after_move_of_ended : ∀ (frames : List AudioFrame) (s : State) (m : Move), s.powered = true →
    (s.crosspoint x).move = some m → (s.crosspoint x).pendingDelay = none → m.elapsed < m.length →
    m.elapsed + frames.length = m.length →
      ((after (frames.map .planFrameStep) s).crosspoint x).move = none
        ∧ ((after (frames.map .planFrameStep) s).crosspoint x).activeDelay = m.dest
  | [], _, _, _, _, _, running, ends => absurd ends (Nat.ne_of_lt running)
  | [frame], s, m, powered, moving, pending, _, ends => by
    obtain ⟨_, lands, _⟩ := planFrameStep_delays_of_moving s frame x moving rfl
    obtain ⟨steady, arrived, _⟩ := lands (Nat.le_of_eq ends.symm) pending
    rw [after_planFrameSteps_cons powered]
    exact ⟨steady, arrived⟩
  | frame :: next :: frames, s, m, powered, moving, pending, _, ends => by
    rw [List.length_cons, List.length_cons] at ends
    obtain ⟨runs, _, _⟩ := planFrameStep_delays_of_moving s frame x moving rfl
    obtain ⟨advanced, _, waits⟩ := runs (by omega)
    rw [after_planFrameSteps_cons powered]
    exact after_move_of_ended (next :: frames) (s.planFrameStep frame) { m with elapsed := m.elapsed + 1 } powered advanced
      (waits.trans pending) (by dsimp only; omega) (by rw [List.length_cons]; dsimp only; omega)

end

end Sys2Proof.Machine

namespace Sys2Proof.Proofs

open Sys2Proof Sys2Proof.Machine Sys2Proof.Safety

/-- Settles O42: a move by induction over its plan steps, a gain by `rampSteps`, which each step takes down. -/
theorem rampsAndMovesArrive : Obligations.RampsAndMovesArrive := by
  refine ⟨fun s x m frames powered moving pending running => ⟨?_, ?_⟩,
    fun s x frames powered slew target active long => ?_⟩
  · exact after_move_of_running frames s m powered moving
  · exact after_move_of_ended frames s m powered moving pending running
  · exact after_activeGain target frames s powered slew rfl active ((rampSteps_le active target).trans long)

end Sys2Proof.Proofs
end

section
/-! PROOFS. O56: ALON and ALOF. -/

namespace Sys2Proof.Machine

open Sys2Proof.Safety

section
variable {s : State} (ready : Ready s .safety) (tag : Byte)
include ready

theorem exec_alon : exec (.alon tag []) s = .next (s.alarmOn.settle .safety 0x50 tag) :=
  request_ready ready 0x50 tag [] fun s => s.answerAlon []
theorem exec_alof : exec (.alof tag []) s = .next (s.alarmOff.settle .safety 0x51 tag) :=
  request_ready ready 0x51 tag [] fun s => s.answerAlof []

end

/-! ### What the override writes (R147, R149) -/

section
variable (s : State)

theorem raise_alarm (k : NoticeKind) (n : Nat) (v : Int) : (s.raise k n v).alarm = s.alarm := by
  obtain ⟨_, _, raised⟩ := raise_touches s k n v
  rw [raised]

theorem raise_zones (k : NoticeKind) (n : Nat) (v : Int) : (s.raise k n v).zones = s.zones := by
  obtain ⟨_, _, raised⟩ := raise_touches s k n v
  rw [raised]

theorem raise_crosspoints (k : NoticeKind) (n : Nat) (v : Int) : (s.raise k n v).crosspoints = s.crosspoints := by
  obtain ⟨_, _, raised⟩ := raise_touches s k n v
  rw [raised]

@[simp] theorem setSelectors_zone (source : ZoneSource) (z : Fin 16) :
    (s.setSelectors source).zone z = { s.zone z with selector := source } := Table.get_mapIdx ..

theorem floorReset_crosspoint (x : Fin 384) :
    s.floorReset.crosspoint x = { (s.crosspoint x).snap with activeGain := -1000 } := updateCrosspoints_crosspoint ..

/-- R147: the outputs held on the alarm source, with the cause written, before OVERRIDE is raised. -/
def State.held (s : State) (cause : OverrideCause) : State := (s.setSelectors .alarmSource).setCause cause

/-- R149: the outputs given back after the floor reset, before OVERRIDE is raised. -/
def State.released (s : State) : State := (s.setCause .noCause).floorReset.setSelectors .crosspointSum

theorem held_zone (cause : OverrideCause) (z : Fin 16) :
    (s.held cause).zone z = { s.zone z with selector := .alarmSource } := setSelectors_zone ..

theorem released_zone (z : Fin 16) : s.released.zone z = { s.zone z with selector := .crosspointSum } :=
  setSelectors_zone ..

theorem released_crosspoint (x : Fin 384) :
    s.released.crosspoint x = { (s.crosspoint x).snap with activeGain := -1000 } :=
  floorReset_crosspoint (s.setCause .noCause) x

theorem released_eq : s.released
    = { s with alarm := s.released.alarm, zones := s.released.zones, crosspoints := s.released.crosspoints } := rfl

variable {s}

/-! ### The requests by the override cause (R146) -/

theorem alarmOn_of_none (h : s.alarm.cause = .noCause) :
    s.alarmOn = ⟨(s.held .alarm).raise .override 0 1, .done, []⟩ := by
  rw [State.alarmOn]
  simp only [h, State.takeOverride, if_pos]
  rfl

theorem alarmOn_of_held (h : s.alarm.cause ≠ .noCause) : s.alarmOn = ⟨s, .done, []⟩ := by
  unfold State.alarmOn
  split
  · exact absurd ‹_› h
  · rfl
  · rfl

theorem alarmOff_of_alarm (h : s.alarm.cause = .alarm) : s.alarmOff = ⟨s.released.raise .override 0 0, .done, []⟩ := by
  rw [State.alarmOff]
  simp only [h]
  rfl

theorem alarmOff_of_other (h : s.alarm.cause ≠ .alarm) : s.alarmOff = ⟨s, .order, []⟩ := by
  unfold State.alarmOff
  split
  · rfl
  · exact absurd ‹_› h
  · rfl

end

section
variable (s : State) (value : Int) (kind tag : Byte)

/-- The state that OVERRIDE raised and a reply formed leave. -/
def State.overridden : State := (⟨s.raise .override 0 value, .done, []⟩ : Answer).settle .safety kind tag

theorem overridden_alarm : (s.overridden value kind tag).alarm = s.alarm := raise_alarm ..

theorem overridden_zones : (s.overridden value kind tag).zones = s.zones := raise_zones ..

theorem overridden_crosspoints : (s.overridden value kind tag).crosspoints = s.crosspoints := raise_crosspoints ..

theorem overridden_zone (z : Fin 16) : (s.overridden value kind tag).zone z = s.zone z := raise_zone ..

theorem overridden_crosspoint (x : Fin 384) : (s.overridden value kind tag).crosspoint x = s.crosspoint x :=
  raise_crosspoint ..

theorem overridden_eq {u : State} (h : u = s) : s.overridden value kind tag
    = { u.raise .override 0 value with safety := (s.overridden value kind tag).safety } := h ▸ rfl

theorem overridden_replied : Replied (s.overridden value kind tag) .safety kind tag .done [] := settle_replied ..

end

end Sys2Proof.Machine

namespace Sys2Proof.Proofs

open Sys2Proof Sys2Proof.Machine Sys2Proof.Safety

/-- ALON from NONE starts the override. -/
theorem alonStartsTheOverride {s : State} (tag : Byte) (ready : Ready s .safety) (idle : s.alarm.cause = .noCause) :
    ∃ t, exec (.alon tag []) s = .next t ∧ t.alarm = { s.alarm with cause := .alarm }
      ∧ (∀ z, t.zone z = { s.zone z with selector := .alarmSource })
      ∧ t = { { s with alarm := t.alarm, zones := t.zones }.raise .override 0 1 with safety := t.safety }
      ∧ Replied t .safety 0x50 tag .done [] := by
  have taken : exec (.alon tag []) s = .next ((s.held .alarm).overridden 1 0x50 tag) :=
    (exec_alon ready tag).trans (by rw [alarmOn_of_none idle]; rfl)
  refine ⟨_, taken, overridden_alarm .., fun z => ?_, overridden_eq _ _ _ _ ?_, overridden_replied ..⟩
  · rw [overridden_zone, held_zone]
  · rw [overridden_alarm, overridden_zones]
    rfl

/-- ALOF from ALARM ends the override with the floor reset. -/
theorem alofEndsTheOverride {s : State} (tag : Byte) (ready : Ready s .safety) (held : s.alarm.cause = .alarm) :
    ∃ t, exec (.alof tag []) s = .next t ∧ t.alarm = { s.alarm with cause := .noCause }
      ∧ (∀ z, t.zone z = { s.zone z with selector := .crosspointSum })
      ∧ (∀ x, t.crosspoint x
          = { s.crosspoint x with activeGain := -1000, activeDelay := (s.crosspoint x).targetDelay,
                                  move := none, pendingDelay := none })
      ∧ t = { { s with alarm := t.alarm, zones := t.zones, crosspoints := t.crosspoints }.raise .override 0 0
              with safety := t.safety }
      ∧ Replied t .safety 0x51 tag .done [] := by
  have taken : exec (.alof tag []) s = .next (s.released.overridden 0 0x51 tag) :=
    (exec_alof ready tag).trans (by rw [alarmOff_of_alarm held]; rfl)
  refine ⟨_, taken, overridden_alarm .., fun z => ?_, fun x => ?_, overridden_eq _ _ _ _ ?_, overridden_replied ..⟩
  · rw [overridden_zone, released_zone]
  · rw [overridden_crosspoint, released_crosspoint]
    rfl
  · rw [overridden_alarm, overridden_zones, overridden_crosspoints, ← released_eq]

/-- Settles O56: each request by the override cause. -/
theorem alonAndAlofHoldTheOutputs : Obligations.AlonAndAlofHoldTheOutputs := by
  refine fun s tag ready => ⟨alonStartsTheOverride tag ready, fun held => ?_, alofEndsTheOverride tag ready,
    fun other => ?_⟩
  · have taken := exec_alon ready tag
    rw [alarmOn_of_held held] at taken
    exact ⟨_, taken, rfl, settle_replied ..⟩
  · have taken := exec_alof ready tag
    rw [alarmOff_of_other other] at taken
    exact ⟨_, taken, rfl, settle_replied ..⟩

end Sys2Proof.Proofs
end
